-- ==== Sys2Proof/Word.lean ====
section
/-! DEFINITION. The words the TB-416 exchanges on its ports, the index types of its fixed banks (hosts, channels,
slots), and the one way a bank of like records is built and changed. -/

namespace Sys2Proof

/-- One byte on a host port (R163). -/
abbrev Byte := BitVec 8

/-- A two-byte field (R176): a channel set, a set of levels, a time in steps, a tag, a subscription mask. -/
abbrev Word := BitVec 16

/-- A level on a channel or a line: `true` is ON / high, `false` is OFF / low (chapter 0, Levels). -/
abbrev Level := Bool

/-- A host, 0 to 3, and its port, A to D: host n is the host of port n (R147). -/
abbrev HostNo := Fin 4

/-- A channel, 0 to 15. -/
abbrev ChannelNo := Fin 16

/-- A slot of the lease table, 0 to 23 (R21). -/
abbrev SlotNo := Fin 24

/-- A lease priority, 0 to 7; 7 is the highest. -/
abbrev Priority := Fin 8

/-- The bank whose record at `i` is `f i`. -/
def bank {n : Nat} {α : Type} (f : Fin n → α) : Vector α n :=
  ⟨(List.ofFn f).toArray, by simp⟩

/-- The bank `v` with `f` applied to the record at `i`. -/
def bankModify {n : Nat} {α : Type} (v : Vector α n) (i : Fin n) (f : α → α) : Vector α n :=
  bank fun j => if j = i then f (v.get j) else v.get j

/-- Channel `c` is a member of the channel set `set`: bit n is channel n (R176). -/
def inSet (set : Word) (c : ChannelNo) : Bool := set.getLsbD c.val

/-- The level that the levels field gives channel `c` (R176). -/
def levelOf (levels : Word) (c : ChannelNo) : Level := levels.getLsbD c.val

/-- The channel set of the channels that satisfy `p`. -/
def setOf (p : ChannelNo → Bool) : Word := BitVec.ofFnLE p

/-- Every channel of `a` is in `b`. -/
def subset (a b : Word) : Bool := a &&& ~~~b == 0

/-- `a` and `b` have a channel in common. -/
def overlaps (a b : Word) : Bool := a &&& b != 0

end Sys2Proof
end

