-- ==== Sys2Proof/Config.lean ====
section
/-! DEFINITION. The numbers the manual fixes for the part. The manual leaves no value of the TB-416 to an
implementation and calls no result undefined, so there is no free value here (INVENTORY.md, What the manual leaves
open). -/

namespace Sys2Proof.Config

/-- The longest term and the longest wait, in steps (chapter 0, Lease time; R30, R68). -/
def maxSteps : Nat := 6000

/-- Milliseconds in one step of lease time (R89). -/
def msPerStep : Nat := 10

/-- Milliseconds in one unit of break time (R14). -/
def msPerBreakUnit : Nat := 2

/-- The settle timer stops at this count (R5). -/
def settleStop : Nat := 255

/-- Milliseconds the INHIBIT line stands low before assertion (R106). -/
def assertMs : Nat := 2

/-- Milliseconds the INHIBIT line stands high before release (R106). -/
def releaseMs : Nat := 20

/-- Milliseconds the supply stands in its range before a power-on reset can complete (R160). -/
def supplyMs : Nat := 5

/-- Shortest RESET low pulse that begins device reset, in nanoseconds: 1 µs (R159). -/
def resetPulseNs : Nat := 1000

/-- A notice queue holds at most this many records (R136). -/
def queueRoom : Nat := 12

/-- Bytes the frame receiver keeps, and the longest valid frame (R164, R165). -/
def frameBytes : Nat := 64

/-- LIST_LEASES returns at most this many entries (R41). -/
def listRoom : Nat := 16

/-- Greatest quota a host can be given (R148). -/
def maxQuota : Nat := 24

/-- Longest break time, in units of 2 ms (R7). -/
def maxBreakTime : Nat := 250

/-- Highest fault threshold, in sweeps (R7). -/
def maxThreshold : Nat := 15

/-- Part code reported by QUERY_STATUS (R162). -/
def partCode : Byte := 0xB4

/-- Revision reported by QUERY_STATUS (R162). -/
def revision : Byte := 0x01

/-- The subscription mask that includes every maskable kind: bits 4 to 13 (R144, R177). -/
def fullMask : Word := 0x3FF0

/-- The bits of a subscription mask that are reserved: 0 to 3, 14 and 15 (R177). -/
def maskReserved : Word := 0xC00F

/-- Warning lead after device reset, in steps (R144). -/
def resetLead : Nat := 50

end Sys2Proof.Config
end

