-- ==== Sys2Proof/Syntax.lean ====
section
/-! DEFINITION. The commands and events that reach the TB-416: one constructor per row of spec/opcode_table.json.
The first twenty are the commands a host sends in a valid frame; the others are the frame and reset events and the
timed and line events of the part's own blocks. -/

namespace Sys2Proof

/-- What begins a device reset (R159; DESIGN CHOICE, notes/assumptions/11.md). -/
inductive ResetCause where
  /-- The supply rises into its operating range; `resetHigh` is the level of the RESET line as it does. -/
  | powerOn (resetHigh : Level)
  /-- The RESET line falls and stays low for `ns` nanoseconds at least. -/
  | resetLine (ns : Nat)
deriving DecidableEq, Repr

/-- The kinds of frame error a port records (R167, R182); `none` until a frame fails after device reset (R175). -/
inductive FrameErrorKind where
  | none | partialByte | unknownOpcode | short | long | check
deriving DecidableEq, Repr

/-- One row of the operations and events table. A row a host sends names the port `p` it arrives on and the number
of clocks of its frame (DESIGN CHOICE, notes/assumptions/6.md, 7.md); `seq` is the sequence byte, and the other fields stand in the order of R177, as wide as they are
on the wire. `slot` and `gen` are the two bytes of a handle (R176). -/
inductive Instr where
  /-- NOOP (R172): collect the buffered reply. -/
  | noop (p : HostNo) (clocks : Nat)
  /-- REQUEST (R30 to R36). `comp` is the competition byte (R176). -/
  | request (p : HostNo) (clocks : Nat) (seq : Byte) (set levels : Word) (comp : Byte) (term maxWait tag : Word)
  /-- RENEW (R68 to R70). -/
  | renew (p : HostNo) (clocks : Nat) (seq slot gen : Byte) (newTerm : Word)
  /-- DRIVE (R72 to R75). -/
  | drive (p : HostNo) (clocks : Nat) (seq slot gen : Byte) (mask levels : Word)
  /-- SHED (R77 to R79). -/
  | shed (p : HostNo) (clocks : Nat) (seq slot gen : Byte) (set : Word)
  /-- ALTER (R81, R82). -/
  | alter (p : HostNo) (clocks : Nat) (seq slot gen comp : Byte)
  /-- RELEASE (R84). -/
  | release (p : HostNo) (clocks : Nat) (seq slot gen : Byte)
  /-- RELEASE_ALL (R86). -/
  | releaseAll (p : HostNo) (clocks : Nat) (seq : Byte)
  /-- QUERY_LEASE (R40). -/
  | queryLease (p : HostNo) (clocks : Nat) (seq slot gen : Byte)
  /-- LIST_LEASES (R41). -/
  | listLeases (p : HostNo) (clocks : Nat) (seq start : Byte)
  /-- QUERY_CHANNEL (R18). `fb` is the level of every FB line when the command is taken (R6; DESIGN CHOICE,
  notes/assumptions/10.md). -/
  | queryChannel (p : HostNo) (clocks : Nat) (seq channel : Byte) (fb : Word)
  /-- QUERY_STATUS (R162). -/
  | queryStatus (p : HostNo) (clocks : Nat) (seq : Byte)
  /-- READ_NOTICE (R140). -/
  | readNotice (p : HostNo) (clocks : Nat) (seq : Byte)
  /-- CLEAR_FAULT (R128, R129). -/
  | clearFault (p : HostNo) (clocks : Nat) (seq channel : Byte)
  /-- SET_NOTICES (R142). -/
  | setNotices (p : HostNo) (clocks : Nat) (seq : Byte) (mask : Word) (lead : Byte)
  /-- SET_CHANNEL (R156, R157). The four bytes after the channel are the configuration field of R177. -/
  | setChannel (p : HostNo) (clocks : Nat) (seq channel flags breakTime settleTime threshold : Byte)
  /-- SET_HOST (R151, R153). -/
  | setHost (p : HostNo) (clocks : Nat) (seq host quota ceiling rights : Byte)
  /-- READ_HOST (R155). -/
  | readHost (p : HostNo) (clocks : Nat) (seq host : Byte)
  /-- REVOKE (R87). -/
  | revoke (p : HostNo) (clocks : Nat) (seq slot gen : Byte)
  /-- TABLE_RESET (R161). -/
  | tableReset (p : HostNo) (clocks : Nat) (seq : Byte)
  /-- FRAME_START (R164, R169): the falling edge of the select line of port `p`. -/
  | frameStart (p : HostNo)
  /-- FRAME_ERROR (R167): the rising edge of the select line of port `p`, after a frame whose sampled bits are `bits`,
  one for each clock, in the order sampled (DESIGN CHOICE, notes/assumptions/8.md). -/
  | frameError (p : HostNo) (bits : List Bool)
  /-- DEVICE_RESET (R159). -/
  | deviceReset (cause : ResetCause)
  /-- RESET_COMPLETE (R160): the RESET line is high. -/
  | resetComplete
  /-- TERM_STEP (R92) of the lease in slot `v`. -/
  | termStep (v : SlotNo)
  /-- EXPIRY (R93) of the lease in slot `v`: the term step that brings remaining to 0. -/
  | expiry (v : SlotNo)
  /-- WAIT_STEP (R97) of the lease in slot `v`. -/
  | waitStep (v : SlotNo)
  /-- WAIT_TIMEOUT (R98) of the lease in slot `v`: the wait step that brings wait remaining to 0. -/
  | waitTimeout (v : SlotNo)
  /-- BREAK_END_RESERVED (R15) of channel `c`. -/
  | breakEndReserved (c : ChannelNo)
  /-- BREAK_END_UNRESERVED (R16) of channel `c`. -/
  | breakEndUnreserved (c : ChannelNo)
  /-- SWEEP_VISIT (R117, R118), with the level of every FB line at the visit. -/
  | sweepVisit (fb : Word)
  /-- INHIBIT_LINE_CHANGE (R106): the INHIBIT line goes to `level`. -/
  | inhibitLineChange (level : Level)
  /-- ASSERTION (R107) of inhibit. -/
  | assertion
  /-- RELEASE_OF_INHIBIT (R110). -/
  | releaseOfInhibit
  /-- BREAK_COUNTDOWN (R14) of channel `c`. -/
  | breakCountdown (c : ChannelNo)
  /-- SETTLE_TIMER_TICK (R5). -/
  | settleTimerTick
deriving DecidableEq, Repr

end Sys2Proof
end

