-- ==== Sys2Proof/Decode.lean ====
section
/-! DEFINITION. Frames: the bits a port samples, their bytes, the check byte, validation, and the command a valid frame
carries, with the frame that carries a given command. spec/opcode_table.json gives no row any bits, so
`decodeTableWord` reads no word. -/

namespace Sys2Proof

/-- The byte whose bits are sampled in this order, most significant first (R163). -/
def byteOfBits (b7 b6 b5 b4 b3 b2 b1 b0 : Bool) : Byte :=
  BitVec.ofBoolListBE [b7, b6, b5, b4, b3, b2, b1, b0]

/-- The bits of a byte in the order they travel (R163). -/
def bitsOfByte (b : Byte) : List Bool :=
  [b.getLsbD 7, b.getLsbD 6, b.getLsbD 5, b.getLsbD 4, b.getLsbD 3, b.getLsbD 2, b.getLsbD 1, b.getLsbD 0]

/-- Every eight sampled bits make a byte; a last part of a byte makes none (R164). -/
def assemble : List Bool → List Byte
  | b7 :: b6 :: b5 :: b4 :: b3 :: b2 :: b1 :: b0 :: rest => byteOfBits b7 b6 b5 b4 b3 b2 b1 b0 :: assemble rest
  | _ => []

/-- The bytes the frame receiver keeps of a frame: its first 64 (R164). -/
def keptBytes (bits : List Bool) : List Byte := (assemble bits).take Config.frameBytes

/-- Two bytes as a word, most significant byte first (R176). -/
def wordOf (hi lo : Byte) : Word := hi ++ lo

/-- The two bytes of a word, most significant first (R176). -/
def bytesOfWord (w : Word) : List Byte := [w.extractLsb' 8 8, w.extractLsb' 0 8]

/-- One place of the check register toward its most significant bit (R166). -/
def crcShift (r : Byte) : Byte := if r.msb then (r <<< 1) ^^^ 0x07 else r <<< 1

/-- The check register after one more byte is covered (R166). -/
def crcByte (r b : Byte) : Byte := crcShift^[8] (r ^^^ b)

/-- The check byte over `bytes` (R166). -/
def crc8 (bytes : List Byte) : Byte := bytes.foldl crcByte 0xFF

/-- Opcodes and the payload bytes of each, in the order of R177. -/
def opcodeTable : List (Byte × Nat) :=
  [(0x00, 0), (0x10, 12), (0x11, 5), (0x12, 7), (0x13, 5), (0x14, 4), (0x15, 3), (0x16, 1),
   (0x20, 3), (0x21, 2), (0x22, 2), (0x23, 1), (0x24, 1),
   (0x30, 2), (0x31, 4), (0x40, 6), (0x41, 5), (0x42, 2), (0x43, 3), (0x44, 1)]

/-- Payload bytes of an opcode; none for a byte that is no opcode (R167, R177). -/
def payloadLength (op : Byte) : Option Nat := opcodeTable.lookup op

/-- The checks of R167 that a frame's clock count decides, once its opcode fixes a payload of `payload` bytes: none is
no error. -/
def lengthError (payload clocks : Nat) : Option FrameErrorKind :=
  if clocks % 8 ≠ 0 then some .partialByte
  else if clocks / 8 < payload + 2 then some .short
  else if clocks / 8 > Config.frameBytes then some .long
  else none

/-- What a port makes of a frame at the rising edge of its select line. -/
inductive FrameVerdict where
  /-- no clock: the frame is ignored entirely (R164) -/
  | ignored
  /-- the frame fails validation (R167) -/
  | failed (kind : FrameErrorKind)
  /-- the frame is valid: its opcode and its payload (R168) -/
  | valid (op : Byte) (payload : List Byte)
deriving DecidableEq, Repr

/-- Validation (R164, R167), the checks in the order of R167's table. -/
def validate (bits : List Bool) : FrameVerdict :=
  match keptBytes bits with
  | [] => if bits.length = 0 then .ignored else .failed .partialByte
  | op :: rest =>
    if bits.length % 8 ≠ 0 then .failed .partialByte
    else match payloadLength op with
      | none => .failed .unknownOpcode
      | some n =>
        match lengthError n bits.length with
        | some k => .failed k
        | none =>
          if rest[n]? = some (crc8 (op :: rest.take n)) then .valid op (rest.take n) else .failed .check

/-- The command that a valid frame of port `p` carries: its opcode and payload read as R177 lays them out, with the
frame's clock count and the FB lines' levels `fb` as they stand. -/
def commandOf (p : HostNo) (clocks : Nat) (fb : Word) (op : Byte) (payload : List Byte) : Option Instr :=
  match op.toNat, payload with
  | 0x00, [] => some (.noop p clocks)
  | 0x10, [seq, s1, s0, l1, l0, comp, t1, t0, w1, w0, g1, g0] =>
    some (.request p clocks seq (wordOf s1 s0) (wordOf l1 l0) comp (wordOf t1 t0) (wordOf w1 w0) (wordOf g1 g0))
  | 0x11, [seq, slot, gen, t1, t0] => some (.renew p clocks seq slot gen (wordOf t1 t0))
  | 0x12, [seq, slot, gen, m1, m0, l1, l0] => some (.drive p clocks seq slot gen (wordOf m1 m0) (wordOf l1 l0))
  | 0x13, [seq, slot, gen, s1, s0] => some (.shed p clocks seq slot gen (wordOf s1 s0))
  | 0x14, [seq, slot, gen, comp] => some (.alter p clocks seq slot gen comp)
  | 0x15, [seq, slot, gen] => some (.release p clocks seq slot gen)
  | 0x16, [seq] => some (.releaseAll p clocks seq)
  | 0x20, [seq, slot, gen] => some (.queryLease p clocks seq slot gen)
  | 0x21, [seq, start] => some (.listLeases p clocks seq start)
  | 0x22, [seq, channel] => some (.queryChannel p clocks seq channel fb)
  | 0x23, [seq] => some (.queryStatus p clocks seq)
  | 0x24, [seq] => some (.readNotice p clocks seq)
  | 0x30, [seq, channel] => some (.clearFault p clocks seq channel)
  | 0x31, [seq, m1, m0, lead] => some (.setNotices p clocks seq (wordOf m1 m0) lead)
  | 0x40, [seq, channel, flags, breakTime, settleTime, threshold] =>
    some (.setChannel p clocks seq channel flags breakTime settleTime threshold)
  | 0x41, [seq, host, quota, ceiling, rights] => some (.setHost p clocks seq host quota ceiling rights)
  | 0x42, [seq, host] => some (.readHost p clocks seq host)
  | 0x43, [seq, slot, gen] => some (.revoke p clocks seq slot gen)
  | 0x44, [seq] => some (.tableReset p clocks seq)
  | _, _ => none

/-- The row of the table that the rising edge of port `p` is, after a frame of these bits: the command of a valid frame,
FRAME_ERROR for a frame that fails, none for a frame without a clock. -/
def rowOfFrame (p : HostNo) (fb : Word) (bits : List Bool) : Option Instr :=
  match validate bits with
  | .ignored => none
  | .failed _ => some (.frameError p bits)
  | .valid op payload => commandOf p bits.length fb op payload

/-- The opcode and payload that carry a command (R177); none for a row that no frame carries. -/
def Instr.opcodeAndPayload : Instr → Option (Byte × List Byte)
  | .noop _ _ => some (0x00, [])
  | .request _ _ seq set levels comp term maxWait tag =>
    some (0x10, seq :: bytesOfWord set ++ bytesOfWord levels ++ [comp] ++ bytesOfWord term ++ bytesOfWord maxWait ++
      bytesOfWord tag)
  | .renew _ _ seq slot gen newTerm => some (0x11, [seq, slot, gen] ++ bytesOfWord newTerm)
  | .drive _ _ seq slot gen mask levels => some (0x12, [seq, slot, gen] ++ bytesOfWord mask ++ bytesOfWord levels)
  | .shed _ _ seq slot gen set => some (0x13, [seq, slot, gen] ++ bytesOfWord set)
  | .alter _ _ seq slot gen comp => some (0x14, [seq, slot, gen, comp])
  | .release _ _ seq slot gen => some (0x15, [seq, slot, gen])
  | .releaseAll _ _ seq => some (0x16, [seq])
  | .queryLease _ _ seq slot gen => some (0x20, [seq, slot, gen])
  | .listLeases _ _ seq start => some (0x21, [seq, start])
  | .queryChannel _ _ seq channel _ => some (0x22, [seq, channel])
  | .queryStatus _ _ seq => some (0x23, [seq])
  | .readNotice _ _ seq => some (0x24, [seq])
  | .clearFault _ _ seq channel => some (0x30, [seq, channel])
  | .setNotices _ _ seq mask lead => some (0x31, [seq] ++ bytesOfWord mask ++ [lead])
  | .setChannel _ _ seq channel flags breakTime settleTime threshold =>
    some (0x40, [seq, channel, flags, breakTime, settleTime, threshold])
  | .setHost _ _ seq host quota ceiling rights => some (0x41, [seq, host, quota, ceiling, rights])
  | .readHost _ _ seq host => some (0x42, [seq, host])
  | .revoke _ _ seq slot gen => some (0x43, [seq, slot, gen])
  | .tableReset _ _ seq => some (0x44, [seq])
  | .frameStart _ => none
  | .frameError _ _ => none
  | .deviceReset _ => none
  | .resetComplete => none
  | .termStep _ => none
  | .expiry _ => none
  | .waitStep _ => none
  | .waitTimeout _ => none
  | .breakEndReserved _ => none
  | .breakEndUnreserved _ => none
  | .sweepVisit _ => none
  | .inhibitLineChange _ => none
  | .assertion => none
  | .releaseOfInhibit => none
  | .breakCountdown _ => none
  | .settleTimerTick => none

/-- The port and clock count of a command a host sends; none for an event of the part. -/
def Instr.frame? : Instr → Option (HostNo × Nat)
  | .noop p n => some (p, n)
  | .request p n _ _ _ _ _ _ _ => some (p, n)
  | .renew p n _ _ _ _ => some (p, n)
  | .drive p n _ _ _ _ _ => some (p, n)
  | .shed p n _ _ _ _ => some (p, n)
  | .alter p n _ _ _ _ => some (p, n)
  | .release p n _ _ _ => some (p, n)
  | .releaseAll p n _ => some (p, n)
  | .queryLease p n _ _ _ => some (p, n)
  | .listLeases p n _ _ => some (p, n)
  | .queryChannel p n _ _ _ => some (p, n)
  | .queryStatus p n _ => some (p, n)
  | .readNotice p n _ => some (p, n)
  | .clearFault p n _ _ => some (p, n)
  | .setNotices p n _ _ _ => some (p, n)
  | .setChannel p n _ _ _ _ _ _ => some (p, n)
  | .setHost p n _ _ _ _ _ => some (p, n)
  | .readHost p n _ _ => some (p, n)
  | .revoke p n _ _ _ => some (p, n)
  | .tableReset p n _ => some (p, n)
  | .frameStart _ => none
  | .frameError _ _ => none
  | .deviceReset _ => none
  | .resetComplete => none
  | .termStep _ => none
  | .expiry _ => none
  | .waitStep _ => none
  | .waitTimeout _ => none
  | .breakEndReserved _ => none
  | .breakEndUnreserved _ => none
  | .sweepVisit _ => none
  | .inhibitLineChange _ => none
  | .assertion => none
  | .releaseOfInhibit => none
  | .breakCountdown _ => none
  | .settleTimerTick => none

/-- The bits of the frame of `op` and `payload`, with its check byte and the filler `filler` (R165). -/
def frameBits (op : Byte) (payload filler : List Byte) : List Bool :=
  (op :: payload ++ crc8 (op :: payload) :: filler).flatMap bitsOfByte

/-- The command that a word of the table's bits spells: the table gives no row any bits, so no word spells one (DEDUCED,
notes/assumptions/20.md). -/
def decodeTableWord (_nbits _w : Nat) : Option Instr := none

end Sys2Proof
end

