-- ==== Sys2Proof/Machine/State.lean ====
section
/-! DEFINITION. The state of the TB-416 as plain data: the sixteen channels with their configuration and fault
records, the lease table with its wait queue, the hosts' authority and notices, the four ports, the sweep, the inhibit
input, device reset and the pins, and the queue of the commands that wait. INVENTORY.md lists every piece with its rule. -/

namespace Sys2Proof.Machine

/-- The fault policies (R7). -/
inductive FaultPolicy where
  | report | revoke | latchOff
deriving DecidableEq, Repr

/-- The configuration of one channel (R7). -/
structure ChannelConfig where
  /-- output level while no lease drives the channel -/
  fallback : Level
  /-- length of the break interval, in units of 2 ms; 0 is no break -/
  breakTime : Nat
  /-- milliseconds the output is steady before it is compared with its feedback -/
  settleTime : Nat
  /-- mismatching comparisons in a row that confirm a fault -/
  threshold : Nat
  policy : FaultPolicy
  /-- whether feedback is present -/
  feedback : Bool
  leasable : Bool
deriving DecidableEq, Repr

/-- The six channel states, each with the link, commanded level and break remaining that R1 and R2 give it: a field
of the channel record that a state lacks is absent (link, commanded level) or 0 (break remaining) there. -/
inductive ChannelState where
  /-- no lease owns or reserves the channel -/
  | free
  /-- the break interval runs; `link` is the reserving GRANTING lease, `remaining` counts units of 2 ms, and `ms` the
  milliseconds of the present unit that have passed (R14) -/
  | brk (link : Option SlotNo) (remaining ms : Nat)
  /-- reserved to the GRANTING lease in slot `link`, no break running -/
  | reserved (link : SlotNo)
  /-- owned by the HELD lease in slot `owner`, which commands `level` -/
  | driven (owner : SlotNo) (level : Level)
  /-- owned, but not driven since inhibit -/
  | rearm (owner : SlotNo)
  /-- locked out by the supervision monitor -/
  | lockedOut
deriving DecidableEq, Repr

/-- The fault states (R116). -/
inductive FaultState where
  | healthy | suspect | faulted
deriving DecidableEq, Repr

/-- The fault kinds (R116). -/
inductive FaultKind where
  | none | stuckOn | stuckOff
deriving DecidableEq, Repr

/-- The fault record of one channel (R116). -/
structure FaultRecord where
  state : FaultState
  count : Nat
  kind : FaultKind
  present : Bool
deriving DecidableEq, Repr

/-- One channel: its record (R1), its configuration (R7) and its fault record (R116). -/
structure Channel where
  state : ChannelState
  /-- settle timer, in ms (R5) -/
  settle : Nat
  config : ChannelConfig
  fault : FaultRecord
deriving DecidableEq, Repr

/-- The lease states (R28). -/
inductive LeaseState where
  | waiting | granting | held | suspended
deriving DecidableEq, Repr

/-- A live lease (R26). Terms and waits count steps of 10 ms. -/
structure Lease where
  holder : HostNo
  state : LeaseState
  set : Word
  priority : Priority
  preemptible : Bool
  requeue : Bool
  term : Nat
  remaining : Nat
  maxWait : Nat
  waitRemaining : Nat
  /-- initial levels, of the channels of the set only (R30) -/
  initial : Word
  /-- commanded levels, of the channels of the set only; absent in WAITING and GRANTING (R27) -/
  commanded : Option Word
  tag : Word
  warned : Bool
  /-- milliseconds of the present step of the running timer that have passed (R89; DEDUCED, notes/assumptions/17.md) -/
  stepMs : Nat
deriving DecidableEq, Repr

/-- One slot of the lease table: its generation (R22), and the live lease in it; no lease is a FREE slot (R21). -/
structure Slot where
  gen : Byte
  lease : Option Lease
deriving DecidableEq, Repr

/-- A handle that names a lease: slot and generation (R23). -/
structure Handle where
  slot : SlotNo
  gen : Byte
deriving DecidableEq, Repr

/-- A notice record: its kind with the fields R135 gives that kind. REVOKED has one form for each cause. -/
inductive Notice where
  | powerOn
  | tableReset
  | overflow
  | granted (h : Handle) (tag : Word)
  | waitTimeout (h : Handle) (tag : Word)
  | expiring (h : Handle) (tag : Word) (remaining : Nat)
  | expired (h : Handle) (tag : Word)
  | preempted (h : Handle) (tag : Word) (taken : Word)
  | requeued (h : Handle) (tag : Word)
  | revokedFault (h : Handle) (tag : Word) (channel : ChannelNo) (kind : FaultKind)
  | revokedAdmin (h : Handle) (tag : Word) (revoker : HostNo)
  | channelFault (channel : ChannelNo) (kind : FaultKind) (lease : Option (Handle × Word))
  | inhibitOn
  | inhibitOff
deriving DecidableEq, Repr

/-- What the part keeps for one host: its authority table entry (R148) and its notice state (R136, R142). -/
structure HostRecord where
  quota : Nat
  ceiling : Priority
  /-- the CONFIG right -/
  config : Bool
  /-- the CLEAR right -/
  clear : Bool
  /-- notice queue, the oldest record first -/
  notices : List Notice
  /-- subscription mask: bit k is the kind whose code is k (R177) -/
  mask : Word
  /-- warning lead, in steps -/
  lead : Nat
deriving DecidableEq, Repr

/-- The result codes of R182. -/
inductive Result where
  | none | ok | granted | granting | queued
  | busy | quota | ceiling | tableFull | badSet | badValue
  | staleHandle | notYours | wrongState | outsideSet | inhibited
  | noRight | stillPresent | notFaulted | lastAuthority
deriving DecidableEq, Repr

/-- A reply record without its length byte (R178): sequence byte, result code and result fields. -/
structure Reply where
  seq : Byte
  result : Result
  fields : List Byte
deriving DecidableEq, Repr

/-- What a port presents on SDO during the frame in progress: the status byte as fixed at the falling edge of the
select line (R169), and the reply record as the buffer held it then (R170). The bits sampled come with the row that ends the
frame (DESIGN CHOICE, notes/assumptions/9.md). -/
structure Shifting where
  status : Byte
  record : List Byte
deriving DecidableEq, Repr

/-- The state of one port (chapter 10). -/
structure PortRecord where
  /-- the select line is low -/
  selLow : Bool
  /-- the frame in progress; none while the frame receiver is idle -/
  frame : Option Shifting
  /-- the reply buffer -/
  reply : Reply
  /-- REPLY_UNREAD -/
  unread : Bool
  /-- FRAME_ERROR -/
  frameError : Bool
  /-- last frame-error kind -/
  errorKind : FrameErrorKind
deriving DecidableEq, Repr

/-- The inhibit input (R106). -/
structure InhibitInput where
  /-- the qualified state: inhibit is in effect -/
  inEffect : Bool
  /-- the qualification timer, in ms -/
  timer : Nat
  /-- the level of the INHIBIT line; low asserts -/
  line : Level
deriving DecidableEq, Repr

/-- Device reset (R159, R160). -/
structure ResetControl where
  /-- device reset is in progress -/
  active : Bool
  /-- the level of the RESET line; low resets -/
  line : Level
  /-- milliseconds the supply has stood in its range, up to 5 -/
  supplyMs : Nat
deriving DecidableEq, Repr

/-- What the outside does as time passes, for the idle step alone (notes/assumptions/3.md, 4.md); the model's own
field, not the manual's. -/
structure Outside where
  /-- the levels the FB lines take at the coming milliseconds; an empty list leaves them as they are -/
  fbNext : List Word
  /-- choices of the order in which events that fall due together are taken -/
  order : List Nat
deriving DecidableEq, Repr

/-- The state of the TB-416. -/
structure State where
  /-- channel records, configurations and fault records, by channel -/
  channels : Vector Channel 16
  /-- the lease table -/
  slots : Vector Slot 24
  /-- the wait queue, front first (R44) -/
  waitQueue : List SlotNo
  /-- authority and notices, by host -/
  hosts : Vector HostRecord 4
  /-- the ports A to D -/
  ports : Vector PortRecord 4
  /-- sweep position: the channel to be visited next (R117) -/
  sweep : ChannelNo
  inhibit : InhibitInput
  resetControl : ResetControl
  /-- the level of every FB line (R6), as last given (DESIGN CHOICE, notes/assumptions/10.md) -/
  fb : Word
  outside : Outside
  /-- the commands that wait, first in, first out (DESIGN CHOICE, notes/assumptions/19.md, 21.md) -/
  pending : List Instr
deriving DecidableEq, Repr

/-- A fault of a step. No rule of the manual stops the part, so there is none: the type has no constructor. -/
inductive Fault where
deriving DecidableEq, Repr

/-- A refusal of a step. -/
inductive Refusal where
  /-- Raised by `exec` alone, for a row of the table that has no meaning yet. Safe: nothing is claimed of it. -/
  | notModelled (mnemonic : String)
deriving DecidableEq, Repr

/-- Configuration of a channel after device reset (R19). -/
def ChannelConfig.reset : ChannelConfig :=
  { fallback := false, breakTime := 0, settleTime := 20, threshold := 3, policy := .report, feedback := false,
    leasable := true }

/-- The fault record of a channel that is HEALTHY (R116): the value after device reset (R132). -/
def FaultRecord.healthy : FaultRecord :=
  { state := .healthy, count := 0, kind := .none, present := false }

/-- A channel after device reset (R19, R132). -/
def Channel.reset : Channel :=
  { state := .free, settle := 0, config := ChannelConfig.reset, fault := FaultRecord.healthy }

/-- A slot after device reset (R42). -/
def Slot.reset : Slot := { gen := 0, lease := none }

/-- A host after device reset (R144, R150). -/
def HostRecord.reset (h : HostNo) : HostRecord :=
  { quota := 6, ceiling := 7, config := h == 0, clear := h == 0, notices := [.powerOn], mask := Config.fullMask,
    lead := Config.resetLead }

/-- A port after device reset (R175), its select line at `selLow`. -/
def PortRecord.reset (selLow : Bool) : PortRecord :=
  { selLow := selLow, frame := none, reply := { seq := 0, result := .none, fields := [] }, unread := false,
    frameError := false, errorKind := .none }

/-- The part right after device reset completes (R160), with its input lines at rest: every select line and the
INHIBIT and RESET lines high, every FB line low (DESIGN CHOICE, notes/assumptions/1.md: the lines are the outside's). -/
def State.reset : State :=
  { channels := bank fun _ => Channel.reset
    slots := bank fun _ => Slot.reset
    waitQueue := []
    hosts := bank HostRecord.reset
    ports := bank fun _ => PortRecord.reset false
    sweep := 0
    inhibit := { inEffect := false, timer := 0, line := true }
    resetControl := { active := false, line := true, supplyMs := Config.supplyMs }
    fb := 0
    outside := { fbNext := [], order := [] }
    pending := [] }

end Sys2Proof.Machine
end

