-- ==== Sys2Proof/Machine/Operands.lean ====
section
/-! DEFINITION. The fields that commands and replies carry (R176, R177): numbers with a permitted range, the
competition byte, the configuration field and the rights byte. A field outside its range or with a reserved bit set
reads as none, which the owning rule answers BAD_VALUE. -/

namespace Sys2Proof.Machine

/-- A count as a one-byte field. -/
def byteOf (n : Nat) : Byte := BitVec.ofNat 8 n

/-- A count as a two-byte field (R176). -/
def wordBytes (n : Nat) : List Byte := bytesOfWord (BitVec.ofNat 16 n)

/-- A channel number field, valid 0 to 15 (R18, R128, R156). -/
def channelField (b : Byte) : Option ChannelNo := if h : b.toNat < 16 then some ⟨b.toNat, h⟩ else none

/-- A slot number, 0 to 23 (R23, R41). -/
def slotField (b : Byte) : Option SlotNo := if h : b.toNat < 24 then some ⟨b.toNat, h⟩ else none

/-- A host number field, valid 0 to 3 (R151, R155). -/
def hostField (b : Byte) : Option HostNo := if h : b.toNat < 4 then some ⟨b.toNat, h⟩ else none

/-- A ceiling field, valid 0 to 7 (R151). -/
def ceilingField (b : Byte) : Option Priority := if h : b.toNat < 8 then some ⟨b.toNat, h⟩ else none

/-- A term or wait field in steps, valid 0 to 6000 (R30, R68). -/
def stepsField (w : Word) : Option Nat := if w.toNat ≤ Config.maxSteps then some w.toNat else none

/-- The competition byte (R176): priority, preemptible and requeue; none when a reserved bit is set. -/
def competitionField (b : Byte) : Option (Priority × Bool × Bool) :=
  if b.extractLsb' 0 3 = 0 then some ((b.extractLsb' 5 3).toFin, b.getLsbD 4, b.getLsbD 3) else none

/-- The competition byte of a lease, its reserved bits 0 (R179). -/
def competitionByte (l : Lease) : Byte :=
  (BitVec.ofFin (w := 3) l.priority) ++ (BitVec.ofBool l.preemptible) ++ (BitVec.ofBool l.requeue) ++ (0 : BitVec 3)

/-- A fault policy code (R182); code 3 is none. -/
def policyField (code : BitVec 2) : Option FaultPolicy :=
  if code = 0 then some .report else if code = 1 then some .revoke else if code = 2 then some .latchOff else none

/-- The code of a fault policy (R182). -/
def policyCode : FaultPolicy → BitVec 2
  | .report => 0
  | .revoke => 1
  | .latchOff => 2

/-- The configuration field of SET_CHANNEL (R177) with the ranges of R156, check 2. -/
def configField (flags breakTime settleTime threshold : Byte) : Option ChannelConfig :=
  if flags.extractLsb' 0 3 = 0 ∧ breakTime.toNat ≤ Config.maxBreakTime ∧ 1 ≤ settleTime.toNat ∧
      1 ≤ threshold.toNat ∧ threshold.toNat ≤ Config.maxThreshold then
    (policyField (flags.extractLsb' 3 2)).map fun policy =>
      { fallback := flags.getLsbD 7, breakTime := breakTime.toNat, settleTime := settleTime.toNat,
        threshold := threshold.toNat, policy := policy, feedback := flags.getLsbD 6, leasable := flags.getLsbD 5 }
  else none

/-- The four bytes of a configuration (R177), its reserved bits 0. -/
def configBytes (k : ChannelConfig) : List Byte :=
  [BitVec.ofBool k.fallback ++ BitVec.ofBool k.feedback ++ BitVec.ofBool k.leasable ++ policyCode k.policy ++ (0 : BitVec 3),
   byteOf k.breakTime, byteOf k.settleTime, byteOf k.threshold]

/-- The rights byte (R177): CONFIG and CLEAR; none when a reserved bit is set. -/
def rightsField (b : Byte) : Option (Bool × Bool) :=
  if b.extractLsb' 2 6 = 0 then some (b.getLsbD 0, b.getLsbD 1) else none

/-- The rights byte of a host (R177). -/
def rightsByte (config clear : Bool) : Byte := (0 : BitVec 6) ++ BitVec.ofBool clear ++ BitVec.ofBool config

/-- The fields of SET_HOST with the ranges of R151, check 2: target host, quota, ceiling, CONFIG and CLEAR. -/
def hostFields (host quota ceiling rights : Byte) : Option (HostNo × Nat × Priority × Bool × Bool) :=
  match hostField host, ceilingField ceiling, rightsField rights with
  | some h, some c, some (config, clear) =>
    if quota.toNat ≤ Config.maxQuota then some (h, quota.toNat, c, config, clear) else none
  | _, _, _ => none

/-- The subscription mask field: none when a reserved bit is set (R142, R177). -/
def maskField (m : Word) : Option Word := if m &&& Config.maskReserved = 0 then some m else none

end Sys2Proof.Machine
end

