-- ==== Sys2Proof/Machine/Flags.lean ====
section
/-! DEFINITION. The codes of R182, the status byte of R180, and which notices a subscription mask passes (R137). -/

namespace Sys2Proof.Machine

/-- Code of a result (R182). -/
def Result.code : Result → Byte
  | .none => 0x00
  | .ok => 0x01
  | .granted => 0x02
  | .granting => 0x03
  | .queued => 0x04
  | .busy => 0x10
  | .quota => 0x11
  | .ceiling => 0x12
  | .tableFull => 0x13
  | .badSet => 0x14
  | .badValue => 0x15
  | .staleHandle => 0x20
  | .notYours => 0x21
  | .wrongState => 0x22
  | .outsideSet => 0x23
  | .inhibited => 0x24
  | .noRight => 0x30
  | .stillPresent => 0x31
  | .notFaulted => 0x32
  | .lastAuthority => 0x33

/-- Code of a notice kind (R182). -/
def Notice.code : Notice → Nat
  | .powerOn => 0x01
  | .tableReset => 0x02
  | .overflow => 0x03
  | .granted _ _ => 0x04
  | .waitTimeout _ _ => 0x05
  | .expiring _ _ _ => 0x06
  | .expired _ _ => 0x07
  | .preempted _ _ _ => 0x08
  | .requeued _ _ => 0x09
  | .revokedFault _ _ _ _ => 0x0A
  | .revokedAdmin _ _ _ => 0x0A
  | .channelFault _ _ _ => 0x0B
  | .inhibitOn => 0x0C
  | .inhibitOff => 0x0D

/-- Code of a lease state; FREE is the state of a slot without a lease (R182). -/
def leaseStateCode : Option LeaseState → Byte
  | none => 0
  | some .waiting => 1
  | some .granting => 2
  | some .held => 3
  | some .suspended => 4

/-- Code of a channel state (R182). -/
def ChannelState.code : ChannelState → Byte
  | .free => 0
  | .brk _ _ _ => 1
  | .reserved _ => 2
  | .driven _ _ => 3
  | .rearm _ => 4
  | .lockedOut => 5

/-- Code of a fault state (R182). -/
def FaultState.code : FaultState → Byte
  | .healthy => 0
  | .suspect => 1
  | .faulted => 2

/-- Code of a fault kind (R182). -/
def FaultKind.code : FaultKind → Byte
  | .none => 0
  | .stuckOn => 1
  | .stuckOff => 2

/-- Code of a frame-error kind (R182). -/
def errorKindCode : FrameErrorKind → BitVec 3
  | .none => 0
  | .partialByte => 1
  | .unknownOpcode => 2
  | .short => 3
  | .long => 4
  | .check => 5

/-- The three kinds below GRANTED are not maskable (R135). -/
def Notice.maskable (n : Notice) : Bool := 4 ≤ n.code

/-- The subscription mask `mask` lets the notice through (R137); a kind that is not maskable bypasses the mask. -/
def Notice.passes (n : Notice) (mask : Word) : Bool := !n.maskable || mask.getLsbD n.code

/-- NOTIFY_ACTIVE (R143): the host's notice queue holds at least one record. -/
def HostRecord.notifyActive (r : HostRecord) : Bool := !r.notices.isEmpty

/-- NOTICE_PENDING (R143): the queue holds at least one record other than POWER_ON. -/
def HostRecord.noticePending (r : HostRecord) : Bool := r.notices.any (· != .powerOn)

/-- The status byte of R180, from the host's notices, the inhibit state and the port's flags. -/
def statusByte (r : HostRecord) (inhibit : Bool) (p : PortRecord) : Byte :=
  BitVec.ofBool r.notifyActive ++ BitVec.ofBool r.noticePending ++ BitVec.ofBool inhibit ++ BitVec.ofBool p.unread ++
    BitVec.ofBool p.frameError ++ errorKindCode p.errorKind

end Sys2Proof.Machine
end

