-- ==== Sys2Proof/Machine/Ops.lean ====
section
/-! DEFINITION. The shared operations of the TB-416: reading and writing the banks of the state, the channel stage's
five requests, the notice queues, the lease-end procedure, the wait queue, pre-emption, the grant, the arbitration pass,
the hold and the warning check, and what every event and every frame does besides. -/

namespace Sys2Proof.Machine

/-! ### Reading and writing the banks -/

/-- The channel `c`. -/
def State.channel (s : State) (c : ChannelNo) : Channel := s.channels.get c

/-- The slot `v`. -/
def State.slot (s : State) (v : SlotNo) : Slot := s.slots.get v

/-- The live lease in slot `v`, if any. -/
def State.lease? (s : State) (v : SlotNo) : Option Lease := (s.slot v).lease

/-- The handle of slot `v`: the slot with its present generation (R1, R23). -/
def State.handle (s : State) (v : SlotNo) : Handle := { slot := v, gen := (s.slot v).gen }

/-- The host `h`. -/
def State.host (s : State) (h : HostNo) : HostRecord := s.hosts.get h

/-- The port `p`. -/
def State.port (s : State) (p : HostNo) : PortRecord := s.ports.get p

/-- Every channel changed by `f`. -/
def State.mapChannels (s : State) (f : ChannelNo → Channel → Channel) : State :=
  { s with channels := bank fun c => f c (s.channel c) }

/-- The channel states of the channels of `set` changed by `f`. -/
def State.mapSet (s : State) (set : Word) (f : Channel → ChannelState) : State :=
  s.mapChannels fun c ch => if inSet set c then { ch with state := f ch } else ch

/-- Channel `c` changed by `f`. -/
def State.modifyChannel (s : State) (c : ChannelNo) (f : Channel → Channel) : State :=
  { s with channels := bankModify s.channels c f }

/-- Slot `v` changed by `f`. -/
def State.modifySlot (s : State) (v : SlotNo) (f : Slot → Slot) : State :=
  { s with slots := bankModify s.slots v f }

/-- The lease in slot `v`, if any, changed by `f`. -/
def State.modifyLease (s : State) (v : SlotNo) (f : Lease → Lease) : State :=
  s.modifySlot v fun x => { x with lease := x.lease.map f }

/-- Host `h` changed by `f`. -/
def State.modifyHost (s : State) (h : HostNo) (f : HostRecord → HostRecord) : State :=
  { s with hosts := bankModify s.hosts h f }

/-- Every host changed by `f`. -/
def State.mapHosts (s : State) (f : HostRecord → HostRecord) : State :=
  { s with hosts := bank fun h => f (s.host h) }

/-- Port `p` changed by `f`. -/
def State.modifyPort (s : State) (p : HostNo) (f : PortRecord → PortRecord) : State :=
  { s with ports := bankModify s.ports p f }

/-- The wait queue replaced. -/
def State.setQueue (s : State) (q : List SlotNo) : State := { s with waitQueue := q }

/-- The channels that satisfy `p`. -/
def State.channelsThat (s : State) (p : Channel → Bool) : Word := setOf fun c => p (s.channel c)

/-! ### The channel stage -/

/-- The output level of a channel (R3). -/
def Channel.output (ch : Channel) : Level :=
  match ch.state with
  | .driven _ level => level
  | .lockedOut => false
  | .free => ch.config.fallback
  | .brk _ _ _ => ch.config.fallback
  | .reserved _ => ch.config.fallback
  | .rearm _ => ch.config.fallback

/-- The level of the DRV line of channel `c` (R4): low while device reset is in progress. -/
def State.drv (s : State) (c : ChannelNo) : Level := !s.resetControl.active && (s.channel c).output

/-- The link of a channel (R1, R2): its owner, or the lease it is reserved to. -/
def ChannelState.link : ChannelState → Option SlotNo
  | .free => none
  | .brk link _ _ => link
  | .reserved link => some link
  | .driven owner _ => some owner
  | .rearm owner => some owner
  | .lockedOut => none

/-- The commanded level of a channel: present in DRIVEN only (R1). -/
def ChannelState.commanded : ChannelState → Option Level
  | .driven _ level => some level
  | .free => none
  | .brk _ _ _ => none
  | .reserved _ => none
  | .rearm _ => none
  | .lockedOut => none

/-- Break remaining: 0 outside BREAK (R1). -/
def ChannelState.breakRemaining : ChannelState → Nat
  | .brk _ remaining _ => remaining
  | .free => 0
  | .reserved _ => 0
  | .driven _ _ => 0
  | .rearm _ => 0
  | .lockedOut => 0

/-- The channel is in BREAK. -/
def ChannelState.isBreak : ChannelState → Bool
  | .brk _ _ _ => true
  | .free => false
  | .reserved _ => false
  | .driven _ _ => false
  | .rearm _ => false
  | .lockedOut => false

/-- The channel is DRIVEN. -/
def ChannelState.isDriven : ChannelState → Bool
  | .driven _ _ => true
  | .free => false
  | .brk _ _ _ => false
  | .reserved _ => false
  | .rearm _ => false
  | .lockedOut => false

/-- The channel is REARM. -/
def ChannelState.isRearm : ChannelState → Bool
  | .rearm _ => true
  | .free => false
  | .brk _ _ _ => false
  | .reserved _ => false
  | .driven _ _ => false
  | .lockedOut => false

/-- The reserve request (R9): the channel is reserved to `w`. -/
def Channel.reserve (w : SlotNo) (ch : Channel) : ChannelState :=
  match ch.state with
  | .free => .reserved w
  | .brk none remaining ms => .brk (some w) remaining ms
  | .brk (some v) remaining ms => .brk (some v) remaining ms
  | .reserved v => .reserved v
  | .driven v level => .driven v level
  | .rearm v => .rearm v
  | .lockedOut => .lockedOut

/-- The hold request (R10) on a channel of the lease in slot `w`: DRIVEN at `level`, or REARM while inhibit is in
effect. -/
def Channel.hold (w : SlotNo) (inhibit : Bool) (level : Level) (ch : Channel) : ChannelState :=
  match ch.state with
  | .reserved _ => if inhibit then .rearm w else .driven w level
  | .free => .free
  | .brk link remaining ms => .brk link remaining ms
  | .driven v l => .driven v l
  | .rearm v => .rearm v
  | .lockedOut => .lockedOut

/-- The re-drive request (R11): the channel is DRIVEN at `level`. -/
def Channel.redrive (level : Level) (ch : Channel) : ChannelState :=
  match ch.state with
  | .driven v _ => .driven v level
  | .rearm v => .driven v level
  | .free => .free
  | .brk link remaining ms => .brk link remaining ms
  | .reserved v => .reserved v
  | .lockedOut => .lockedOut

/-- The leave request (R12); TABLE_RESET takes a channel out in the same way (R20). A DRIVEN channel starts its break
(R14) when its break time is not 0. -/
def Channel.leave (ch : Channel) : ChannelState :=
  match ch.state with
  | .driven _ _ => if ch.config.breakTime = 0 then .free else .brk none ch.config.breakTime 0
  | .rearm _ => .free
  | .reserved _ => .free
  | .brk _ remaining ms => .brk none remaining ms
  | .lockedOut => .lockedOut
  | .free => .free

/-- The hand over request (R13): the channel goes straight to the winner `w`, reserved to it. -/
def Channel.handOver (w : SlotNo) (ch : Channel) : ChannelState :=
  match ch.state with
  | .driven _ _ => if ch.config.breakTime = 0 then .reserved w else .brk (some w) ch.config.breakTime 0
  | .rearm _ => .reserved w
  | .reserved _ => .reserved w
  | .brk _ remaining ms => .brk (some w) remaining ms
  | .lockedOut => .lockedOut
  | .free => .free

/-- The end of a break (R15, R16): RESERVED to the reserving lease, or FREE. -/
def Channel.endBreak (ch : Channel) : ChannelState :=
  match ch.state with
  | .brk (some v) _ _ => .reserved v
  | .brk none _ _ => .free
  | .free => .free
  | .reserved v => .reserved v
  | .driven v level => .driven v level
  | .rearm v => .rearm v
  | .lockedOut => .lockedOut

/-- What a change of output level does besides (R5, R120): the settle timer restarts from 0, and a SUSPECT fault record
returns to HEALTHY. -/
def Channel.levelChanged (ch : Channel) : Channel :=
  { ch with settle := 0, fault := if ch.fault.state = .suspect then FaultRecord.healthy else ch.fault }

/-- R4 and R5 at the end of an event that took `before` to `after`: each channel whose output level differs from what it
was before the event has `levelChanged`; the levels the event passed through count for nothing. This holds of TABLE_RESET too,
where R43, R132 and R161 say that the fault records stand (DEDUCED, notes/assumptions/23.md). -/
def syncOutputs (before after : State) : State :=
  after.mapChannels fun c ch => if ch.output = (before.channel c).output then ch else ch.levelChanged

/-- An event of the part (R4): taken whole by `f`; no event is taken while device reset is in progress (R159). -/
def event (f : State → State) (s : State) : State :=
  if s.resetControl.active then s else syncOutputs s (f s)

/-! ### The notice queues -/

/-- The append discipline of R138. A queue of 12 records without OVERFLOW cannot arise; it keeps what it holds (DESIGN
CHOICE, notes/assumptions/15.md). -/
def appendRecord (q : List Notice) (n : Notice) : List Notice :=
  if .overflow ∈ q then q
  else if q.length + 1 < Config.queueRoom then q ++ [n]
  else if q.length + 1 = Config.queueRoom then q ++ [.overflow]
  else q

/-- A notice meant for a host, tested against its mask (R137) and appended (R138). -/
def HostRecord.receive (n : Notice) (r : HostRecord) : HostRecord :=
  if n.passes r.mask then { r with notices := appendRecord r.notices n } else r

/-- The notice `n` to host `h`. -/
def State.notify (s : State) (h : HostNo) (n : Notice) : State := s.modifyHost h (HostRecord.receive n)

/-- The notice `n` to every host, each by its own mask and queue (R136, R139). -/
def State.notifyAll (s : State) (n : Notice) : State := s.mapHosts (HostRecord.receive n)

/-- The NOTIFY line of host `h` is driven low (R143): its queue holds a record and no device reset is in progress. -/
def State.notifyLow (s : State) (h : HostNo) : Bool := !s.resetControl.active && (s.host h).notifyActive

/-! ### The lease table and the wait queue -/

/-- The live-lease count of host `h` (R29). -/
def State.liveCount (s : State) (h : HostNo) : Nat :=
  (List.finRange 24).countP fun v => match s.lease? v with
    | some l => l.holder == h
    | none => false

/-- The lowest-numbered FREE slot (R21). -/
def State.lowestFree (s : State) : Option SlotNo :=
  (List.finRange 24).find? fun v => (s.lease? v).isNone

/-- The slot and the live lease that a handle of two bytes names (R23); none for a stale handle. -/
def State.named (s : State) (slot gen : Byte) : Option (SlotNo × Lease) :=
  match slotField slot with
  | none => none
  | some v =>
    match s.lease? v with
    | none => none
    | some l => if (s.slot v).gen = gen then some (v, l) else none

/-- The priority of the lease in slot `v`. A slot without a lease never stands in the wait queue (R44; notes/assumptions/15.md). -/
def State.priorityOf (s : State) (v : SlotNo) : Priority :=
  match s.lease? v with
  | some l => l.priority
  | none => 0

/-- `v` enters the wait queue at the back of the group of priority `pr` (R45). -/
def State.enqueueBack (s : State) (v : SlotNo) (pr : Priority) : State :=
  s.setQueue (s.waitQueue.takeWhile (fun u => pr ≤ s.priorityOf u) ++ v ::
    s.waitQueue.dropWhile (fun u => pr ≤ s.priorityOf u))

/-- `v` enters the wait queue at the front of the group of priority `pr` (R46). -/
def State.enqueueFront (s : State) (v : SlotNo) (pr : Priority) : State :=
  s.setQueue (s.waitQueue.takeWhile (fun u => pr < s.priorityOf u) ++ v ::
    s.waitQueue.dropWhile (fun u => pr < s.priorityOf u))

/-- `v` leaves the wait queue; every other entry keeps its order (R45). -/
def State.dequeue (s : State) (v : SlotNo) : State := s.setQueue (s.waitQueue.filter (· != v))

/-- The queue position of slot `v`, counted from 1 at the front; 0 when it does not wait (R47, R179). -/
def State.queuePosition (s : State) (v : SlotNo) : Nat :=
  if v ∈ s.waitQueue then s.waitQueue.idxOf v + 1 else 0

/-- Slot `v` returns to FREE: its record is discarded and its generation advances by one (R22, R38). -/
def State.freeSlot (s : State) (v : SlotNo) : State :=
  s.modifySlot v fun x => { gen := x.gen + 1, lease := none }

/-- The first part of the lease-end procedure (R37): every channel leaves the lease in slot `v`, or the waiting lease
leaves the queue. -/
def State.takeOut (s : State) (v : SlotNo) : State :=
  match s.lease? v with
  | none => s
  | some l => if l.state = .waiting then s.dequeue v else s.mapSet l.set Channel.leave

/-- The lease-end procedure of R37 and R38, and then the notice of its cause (R39). The pass is the caller's. -/
def State.endLease (s : State) (v : SlotNo) (n : Notice) : State :=
  match s.lease? v with
  | none => s
  | some l => ((s.takeOut v).freeSlot v).notify l.holder n

/-- The warning check (R95) of the lease in slot `v`. -/
def State.warningCheck (s : State) (v : SlotNo) : State :=
  match s.lease? v with
  | none => s
  | some l =>
    if (s.host l.holder).lead ≠ 0 ∧ l.remaining ≤ (s.host l.holder).lead ∧ l.warned = false then
      (s.modifyLease v fun l => { l with warned := true }).notify l.holder (.expiring (s.handle v) l.tag l.remaining)
    else s

/-- The lease record at a hold (R27, R62, R91): HELD, or SUSPENDED while inhibit is in effect, with its term started and
its commanded levels equal to its initial levels. -/
def Lease.heldRecord (inhibit : Bool) (l : Lease) : Lease :=
  { l with state := if inhibit then .suspended else .held, remaining := l.term, warned := false,
           commanded := some l.initial, waitRemaining := 0, stepMs := 0 }

/-- The lease in slot `v` is held (R10, R62): its record, its whole set, its GRANTED notice unless this is the pass of its
own REQUEST (R61, `own`), and the warning check of its term start. -/
def State.holdLease (s : State) (own : Option SlotNo) (v : SlotNo) : State :=
  match s.lease? v with
  | none => s
  | some l =>
    let s1 := s.modifyLease v (Lease.heldRecord s.inhibit.inEffect)
    let s2 := s1.mapChannels fun c ch =>
      if inSet l.set c then { ch with state := ch.hold v s.inhibit.inEffect (levelOf l.initial c) } else ch
    let s3 := if own = some v then s2 else s2.notify l.holder (.granted (s.handle v) l.tag)
    s3.warningCheck v

/-- A channel of the set `set` is in BREAK. -/
def State.anyBreak (s : State) (set : Word) : Bool :=
  (List.finRange 16).any fun c => inSet set c && (s.channel c).state.isBreak

/-! ### Arbitration -/

/-- The lease in slot `v` can be pre-empted by a lease of priority `pr` (R48). -/
def State.yields (s : State) (v : SlotNo) (pr : Priority) : Bool :=
  match s.lease? v with
  | some l => l.preemptible && decide (l.priority < pr)
  | none => false

/-- The part of the channel condition that is not the channel's state and link (R48): leasable, not LOCKED_OUT, and not
FAULTED under the REVOKE policy. -/
def Channel.available (ch : Channel) : Bool :=
  ch.config.leasable && ch.state != .lockedOut && !(ch.fault.state == .faulted && ch.config.policy == .revoke)

/-- Channel `c` passes the channel condition for a lease of priority `pr` (R48). -/
def State.channelPasses (s : State) (pr : Priority) (c : ChannelNo) : Bool :=
  (s.channel c).available &&
    match (s.channel c).state.link with
    | none => true
    | some v => s.yields v pr

/-- No lease of `ahead` shares a channel with `set` (the queue condition of R49). -/
def State.queuePasses (s : State) (ahead : List SlotNo) (set : Word) : Bool :=
  ahead.all fun u => match s.lease? u with
    | some m => !overlaps m.set set
    | none => true

/-- The lease in slot `w`, with the leases `ahead` before it in the queue, is grantable (R49). -/
def State.grantable (s : State) (ahead : List SlotNo) (w : SlotNo) : Bool :=
  match s.lease? w with
  | none => false
  | some l =>
    (List.finRange 16).all (fun c => !inSet l.set c || s.channelPasses l.priority c) && s.queuePasses ahead l.set

/-- The leases that own or reserve a channel of `set`, in ascending slot order (R53, R54). -/
def State.victims (s : State) (set : Word) : List SlotNo :=
  (List.finRange 24).filter fun v =>
    (List.finRange 16).any fun c => inSet set c && (s.channel c).state.link == some v

/-- The record of a victim returned to the queue (R56). -/
def Lease.requeuedRecord (l : Lease) : Lease :=
  { l with state := .waiting, waitRemaining := l.maxWait, remaining := 0, commanded := none, warned := false,
           stepMs := 0 }

/-- The lease in slot `v` is pre-empted by the winner `w`, whose set is `wset` (R55 to R57). -/
def State.preempt (w : SlotNo) (wset : Word) (s : State) (v : SlotNo) : State :=
  match s.lease? v with
  | none => s
  | some l =>
    let s1 := s.mapChannels fun c ch =>
      if inSet l.set c then { ch with state := if inSet wset c then ch.handOver w else ch.leave } else ch
    if l.requeue && l.maxWait != 0 then
      ((s1.modifyLease v Lease.requeuedRecord).enqueueFront v l.priority).notify l.holder (.requeued (s.handle v) l.tag)
    else
      (s1.freeSlot v).notify l.holder (.preempted (s.handle v) l.tag (l.set &&& wset))

/-- The record of a lease granted but not yet held (R51, steps 2 and 4). -/
def Lease.grantedRecord (l : Lease) : Lease :=
  { l with state := .granting, waitRemaining := 0, stepMs := 0 }

/-- Steps 2 and 3 of the grant of the lease in slot `w` (R51): it leaves the queue, and every channel of its set `set` is
reserved to it. -/
def State.reserveSet (s : State) (w : SlotNo) (set : Word) : State :=
  ((s.dequeue w).modifyLease w Lease.grantedRecord).mapSet set (Channel.reserve w)

/-- The lease in slot `v`, with set `set`, is held unless a channel of the set is in BREAK (R51 step 4, R63, R78). -/
def State.holdUnlessBreak (s : State) (own : Option SlotNo) (v : SlotNo) (set : Word) : State :=
  if s.anyBreak set then s else s.holdLease own v

/-- The grant of the waiting lease in slot `w` (R51). -/
def State.grant (s : State) (own : Option SlotNo) (w : SlotNo) : State :=
  match s.lease? w with
  | none => s
  | some l => (((s.victims l.set).foldl (State.preempt w l.set) s).reserveSet w l.set).holdUnlessBreak own w l.set

/-- The pass from the `i`-th entry on (R50). Every live lease is examined at most once in a pass (section 3.3), so the
fuel that `pass` gives outlasts it (DEDUCED, notes/assumptions/16.md). -/
def State.passFrom (own : Option SlotNo) : Nat → Nat → State → State
  | 0, _, s => s
  | fuel + 1, i, s =>
    match s.waitQueue[i]? with
    | none => s
    | some w =>
      if s.grantable (s.waitQueue.take i) w then State.passFrom own fuel i (s.grant own w)
      else State.passFrom own fuel (i + 1) s

/-- An arbitration pass (R50), from the front of the queue. `own` is the lease whose REQUEST runs the pass (R61). -/
def State.pass (s : State) (own : Option SlotNo) : State :=
  State.passFrom own (s.waitQueue.length + 24) 0 s

/-- The channels that are REARM under the lease in slot `v`: its re-arm set (R40, R72). -/
def State.rearmSet (s : State) (v : SlotNo) : Word :=
  s.channelsThat fun ch => ch.state == .rearm v

/-! ### Frames and replies -/

/-- The length byte of a reply record (R178). -/
def Reply.length (r : Reply) : Nat := r.fields.length + 2

/-- A reply record on the wire: length byte, sequence byte, result code, result fields (R178). -/
def Reply.record (r : Reply) : List Byte := byteOf r.length :: r.seq :: r.result.code :: r.fields

/-- What the part sends in a frame before its zero bytes (R170): status byte, reply record and reply check byte. -/
def Shifting.sent (x : Shifting) : List Byte := x.status :: x.record ++ [crc8 (x.status :: x.record)]

/-- Byte `i` of a frame as the part sends it, counted from 0 (R170, R178): status byte, reply record and reply check byte,
and then zero bytes for as long as the host clocks. -/
def Shifting.byte (x : Shifting) (i : Nat) : Byte := x.sent.getD i 0

/-- The bit presented after `k` falling edges of the clock (R163): bytes travel most significant bit first, and the first
bit stands from the falling edge of the select line. -/
def Shifting.bit (x : Shifting) (k : Nat) : Level := (x.byte (k / 8)).getLsbD (7 - k % 8)

/-- The SDO line of port `p` after `k` falling edges of SCK within the frame in progress (R163); none is high-impedance. It
is so while the select line is high, while device reset is in progress, and while the line has stood low since before the
completion of device reset (R175). -/
def State.sdo (s : State) (p : HostNo) (k : Nat) : Option Level :=
  if s.resetControl.active || !(s.port p).selLow then none else (s.port p).frame.map fun x => x.bit k

/-- The reply of port `p` replaced, and REPLY_UNREAD set (R171). -/
def State.answer (s : State) (p : HostNo) (seq : Byte) (result : Result) (fields : List Byte) : State :=
  s.modifyPort p fun x => { x with reply := { seq := seq, result := result, fields := fields }, unread := true }

/-- A command answered with its result code alone (R67, R178); it changes nothing else. -/
def State.refuse (s : State) (p : HostNo) (seq : Byte) (result : Result) : State := s.answer p seq result []

/-- The frame of port `p` ends after `clocks` clocks: the select line is high, the receiver is idle, and REPLY_UNREAD is
cleared when the frame reached the end of the reply check byte (R171). -/
def PortRecord.endFrame (clocks : Nat) (x : PortRecord) : PortRecord :=
  { x with selLow := false, frame := none,
           unread := if 8 * (x.reply.length + 3) ≤ clocks then false else x.unread }

/-- A frame that fails validation (R167): FRAME_ERROR is set with its kind, and the buffer is kept. -/
def PortRecord.fail (kind : FrameErrorKind) (x : PortRecord) : PortRecord :=
  { x with frameError := true, errorKind := kind }

/-- A valid frame clears FRAME_ERROR; the last kind stays (R168). -/
def PortRecord.accept (x : PortRecord) : PortRecord := { x with frameError := false }

/-- The rising edge of the select line of port `p`, after a frame of `clocks` clocks, and then `after`. While device reset
is in progress, or when the line has been low since before its completion, the edge ends no frame (R175). -/
def frameEnd (p : HostNo) (clocks : Nat) (after : State → State) (s : State) : State :=
  if s.resetControl.active || ((s.port p).selLow && (s.port p).frame.isNone) then
    s.modifyPort p fun x => { x with selLow := false }
  else event (fun s => after (s.modifyPort p (PortRecord.endFrame clocks))) s

/-- A command of `payload` payload bytes at the end of its frame of `clocks` clocks: a frame without a clock is ignored
(R164), a length that does not fit is a frame error (R167), and otherwise FRAME_ERROR is cleared and the command is
executed by `body` in the same event (R168). DESIGN CHOICE: notes/assumptions/6.md, 7.md. -/
def onFrame (p : HostNo) (clocks payload : Nat) (body : State → State) (s : State) : State :=
  frameEnd p clocks (fun s =>
    if clocks = 0 then s
    else match lengthError payload clocks with
      | some kind => s.modifyPort p (PortRecord.fail kind)
      | none => body (s.modifyPort p PortRecord.accept)) s

/-- The checks common to the commands that carry a handle (R24, R66): the handle is live and its lease is the requesting
host's, or the command is refused; then `body` with the slot and the lease. -/
def State.onOwnLease (s : State) (p : HostNo) (seq slot gen : Byte) (body : SlotNo → Lease → State) : State :=
  match s.named slot gen with
  | none => s.refuse p seq .staleHandle
  | some (v, l) => if l.holder = p then body v l else s.refuse p seq .notYours

end Sys2Proof.Machine
end

