-- ==== Sys2Proof/Machine/Inhibit.lean ====
section
/-! DEFINITION. The inhibit input: INHIBIT_LINE_CHANGE, ASSERTION and RELEASE_OF_INHIBIT (chapter 6). -/

namespace Sys2Proof.Machine

/-- The INHIBIT line stands at the level that disagrees with the qualified state (R106): low while inhibit is not in effect,
high while it is. The qualification timer then counts. -/
def InhibitInput.disagrees (i : InhibitInput) : Bool := i.line == i.inEffect

/-- The line goes to `level` (R106): a change of level leaves the timer at 0, to count from there or be held. -/
def InhibitInput.lineTo (level : Level) (i : InhibitInput) : InhibitInput :=
  if level = i.line then i else { i with line := level, timer := 0 }

/-- INHIBIT_LINE_CHANGE (R106). The line is the outside's and changes during device reset too, where the timer stands at 0
(R114). -/
def execInhibitLineChange (level : Level) (s : State) : Host.Outcome State Fault Refusal :=
  .next { s with inhibit := s.inhibit.lineTo level }

/-- Assertion is due (R106): inhibit is not in effect, and the line has stood low for 2 ms (DESIGN CHOICE,
notes/assumptions/14.md). -/
def InhibitInput.assertDue (i : InhibitInput) : Bool :=
  !i.inEffect && !i.line && decide (Config.assertMs ≤ i.timer)

/-- A channel at assertion (R107). -/
def Channel.suspend (ch : Channel) : ChannelState :=
  match ch.state with
  | .driven v _ => .rearm v
  | .rearm v => .rearm v
  | .free => .free
  | .brk link remaining ms => .brk link remaining ms
  | .reserved v => .reserved v
  | .lockedOut => .lockedOut

/-- A lease state at assertion (R107). -/
def LeaseState.suspend : LeaseState → LeaseState
  | .held => .suspended
  | .suspended => .suspended
  | .waiting => .waiting
  | .granting => .granting

/-- A lease state at release (R110). -/
def LeaseState.resume : LeaseState → LeaseState
  | .suspended => .held
  | .held => .held
  | .waiting => .waiting
  | .granting => .granting

/-- Every lease state changed by `f`. -/
def State.mapLeaseStates (s : State) (f : LeaseState → LeaseState) : State :=
  { s with slots := bank fun v =>
      let x := s.slot v
      { x with lease := x.lease.map fun l => { l with state := f l.state } } }

/-- The qualified state becomes `inEffect`, and the timer returns to 0 (R106). -/
def State.qualify (s : State) (inEffect : Bool) : State :=
  { s with inhibit := { s.inhibit with inEffect := inEffect, timer := 0 } }

/-- Inhibit comes into effect (R107). -/
def State.assertInhibit (s : State) : State :=
  (((s.qualify true).mapChannels fun _ ch => { ch with state := ch.suspend }).mapLeaseStates
    LeaseState.suspend).notifyAll .inhibitOn

/-- ASSERTION (R107); nothing when the line has not qualified. -/
def execAssertion (s : State) : Host.Outcome State Fault Refusal :=
  .next (event (fun s => if s.inhibit.assertDue then s.assertInhibit else s) s)

/-- Release is due (R106): inhibit is in effect, and the line has stood high for 20 ms. -/
def InhibitInput.releaseDue (i : InhibitInput) : Bool :=
  i.inEffect && i.line && decide (Config.releaseMs ≤ i.timer)

/-- Inhibit is released (R110). -/
def State.liftInhibit (s : State) : State :=
  ((s.qualify false).mapLeaseStates LeaseState.resume).notifyAll .inhibitOff

/-- RELEASE_OF_INHIBIT (R110); nothing when the line has not qualified. -/
def execReleaseOfInhibit (s : State) : Host.Outcome State Fault Refusal :=
  .next (event (fun s => if s.inhibit.releaseDue then s.liftInhibit else s) s)

end Sys2Proof.Machine
end

