-- ==== Sys2Proof/Machine/Timers.lean ====
section
/-! DEFINITION. The timed events of leases and channels: TERM_STEP, EXPIRY, WAIT_STEP, WAIT_TIMEOUT, BREAK_COUNTDOWN,
BREAK_END_RESERVED, BREAK_END_UNRESERVED and SETTLE_TIMER_TICK. Each acts on a timer that runs and whose present step or
unit is complete; otherwise the event is not taken and nothing changes (R25, R89, R100; notes/assumptions/2.md). -/

namespace Sys2Proof.Machine

/-- The lease is HELD or SUSPENDED: its term timer runs (R92). -/
def LeaseState.runsTerm : LeaseState → Bool
  | .held => true
  | .suspended => true
  | .waiting => false
  | .granting => false

/-- The term timer of `l` runs and its present step of 10 ms is complete (R89, R92). -/
def Lease.termStepDue (l : Lease) : Bool := l.state.runsTerm && decide (Config.msPerStep ≤ l.stepMs)

/-- The wait timer of `l` runs and its present step of 10 ms is complete (R89, R97). -/
def Lease.waitStepDue (l : Lease) : Bool := l.state == .waiting && decide (Config.msPerStep ≤ l.stepMs)

/-- The lease `l` in slot `v` expires (R93). -/
def State.expire (s : State) (v : SlotNo) (l : Lease) : State :=
  (s.endLease v (.expired (s.handle v) l.tag)).pass none

/-- The waiting lease `l` in slot `v` times out (R98). -/
def State.timeOut (s : State) (v : SlotNo) (l : Lease) : State :=
  (s.endLease v (.waitTimeout (s.handle v) l.tag)).pass none

/-- A step event of the term timer of slot `v` (R92): the step that brings remaining to 0 is the lease's expiry
(DEDUCED, notes/assumptions/13.md). -/
def State.termStep (v : SlotNo) (s : State) : State :=
  match s.lease? v with
  | none => s
  | some l =>
    if l.termStepDue then
      if l.remaining ≤ 1 then s.expire v l
      else (s.modifyLease v fun l => { l with remaining := l.remaining - 1, stepMs := 0 }).warningCheck v
    else s

/-- TERM_STEP (R92). -/
def execTermStep (v : SlotNo) (s : State) : Host.Outcome State Fault Refusal := .next (event (State.termStep v) s)

/-- The step event of the term timer of slot `v` that brings remaining to 0 (R93); before it, nothing. -/
def State.expiryEvent (v : SlotNo) (s : State) : State :=
  match s.lease? v with
  | none => s
  | some l => if l.termStepDue ∧ l.remaining ≤ 1 then s.expire v l else s

/-- EXPIRY (R93). -/
def execExpiry (v : SlotNo) (s : State) : Host.Outcome State Fault Refusal := .next (event (State.expiryEvent v) s)

/-- A step event of the wait timer of slot `v` (R97): the step that brings wait remaining to 0 is the timeout
(DEDUCED, notes/assumptions/13.md). -/
def State.waitStep (v : SlotNo) (s : State) : State :=
  match s.lease? v with
  | none => s
  | some l =>
    if l.waitStepDue then
      if l.waitRemaining ≤ 1 then s.timeOut v l
      else s.modifyLease v fun l => { l with waitRemaining := l.waitRemaining - 1, stepMs := 0 }
    else s

/-- WAIT_STEP (R97). -/
def execWaitStep (v : SlotNo) (s : State) : Host.Outcome State Fault Refusal := .next (event (State.waitStep v) s)

/-- The step event of the wait timer of slot `v` that brings wait remaining to 0 (R98); before it, nothing. -/
def State.timeoutEvent (v : SlotNo) (s : State) : State :=
  match s.lease? v with
  | none => s
  | some l => if l.waitStepDue ∧ l.waitRemaining ≤ 1 then s.timeOut v l else s

/-- WAIT_TIMEOUT (R98). -/
def execWaitTimeout (v : SlotNo) (s : State) : Host.Outcome State Fault Refusal :=
  .next (event (State.timeoutEvent v) s)

/-- What the lease table does with the report that the break of a channel linked to `link` has ended: a pass for an
unreserved channel (R16); for a reserved one, the hold of the reserving lease when no channel of its set is still in BREAK
(R15, R63). -/
def State.breakEnded (s : State) (link : Option SlotNo) : State :=
  match link with
  | none => s.pass none
  | some v =>
    match s.lease? v with
    | none => s
    | some l => s.holdUnlessBreak none v l.set

/-- The break of channel `c`, linked to `link`, ends (R15, R16). -/
def State.endBreak (s : State) (c : ChannelNo) (link : Option SlotNo) : State :=
  (s.modifyChannel c fun ch => { ch with state := ch.endBreak }).breakEnded link

/-- A unit of the break of channel `c` is complete (R14): break remaining decreases by one, and at 0 the break ends. -/
def State.breakCountdown (c : ChannelNo) (s : State) : State :=
  match (s.channel c).state with
  | .brk link remaining ms =>
    if Config.msPerBreakUnit ≤ ms then
      if remaining ≤ 1 then s.endBreak c link
      else s.modifyChannel c fun ch => { ch with state := .brk link (remaining - 1) 0 }
    else s
  | .free => s
  | .reserved _ => s
  | .driven _ _ => s
  | .rearm _ => s
  | .lockedOut => s

/-- BREAK_COUNTDOWN (R14). -/
def execBreakCountdown (c : ChannelNo) (s : State) : Host.Outcome State Fault Refusal :=
  .next (event (State.breakCountdown c) s)

/-- The last unit of the reserved break of channel `c` is complete (R15); otherwise nothing. -/
def State.breakEndReserved (c : ChannelNo) (s : State) : State :=
  match (s.channel c).state with
  | .brk (some v) remaining ms =>
    if Config.msPerBreakUnit ≤ ms ∧ remaining ≤ 1 then s.endBreak c (some v) else s
  | .brk none _ _ => s
  | .free => s
  | .reserved _ => s
  | .driven _ _ => s
  | .rearm _ => s
  | .lockedOut => s

/-- BREAK_END_RESERVED (R15). -/
def execBreakEndReserved (c : ChannelNo) (s : State) : Host.Outcome State Fault Refusal :=
  .next (event (State.breakEndReserved c) s)

/-- The last unit of the unreserved break of channel `c` is complete (R16); otherwise nothing. -/
def State.breakEndUnreserved (c : ChannelNo) (s : State) : State :=
  match (s.channel c).state with
  | .brk none remaining ms =>
    if Config.msPerBreakUnit ≤ ms ∧ remaining ≤ 1 then s.endBreak c none else s
  | .brk (some _) _ _ => s
  | .free => s
  | .reserved _ => s
  | .driven _ _ => s
  | .rearm _ => s
  | .lockedOut => s

/-- BREAK_END_UNRESERVED (R16). -/
def execBreakEndUnreserved (c : ChannelNo) (s : State) : Host.Outcome State Fault Refusal :=
  .next (event (State.breakEndUnreserved c) s)

/-- Every settle timer advances by one millisecond and stops at 255 (R5). -/
def State.settleTick (s : State) : State :=
  s.mapChannels fun _ ch => { ch with settle := min (ch.settle + 1) Config.settleStop }

/-- SETTLE_TIMER_TICK (R5). -/
def execSettleTimerTick (s : State) : Host.Outcome State Fault Refusal := .next (event State.settleTick s)

end Sys2Proof.Machine
end

