-- ==== Sys2Proof/Machine/Clock.lean ====
section
/-! DEFINITION. The on-chip oscillator: what one millisecond does while no command waits. It advances every running
timer that counts milliseconds and puts the events that fall due into the queue (DESIGN CHOICE, notes/assumptions/3.md).
Time is counted in whole milliseconds (DESIGN CHOICE, notes/assumptions/18.md). -/

namespace Sys2Proof.Machine

/-- A lease after one millisecond: the part of a step that has passed grows while a timer of it runs (R89). A GRANTING lease
runs no timer (R28). -/
def Lease.tick (l : Lease) : Lease :=
  if l.state = .granting then l else { l with stepMs := min (l.stepMs + 1) Config.msPerStep }

/-- A channel state after one millisecond: the part of a unit of its break that has passed grows (R14). -/
def ChannelState.tick : ChannelState → ChannelState
  | .brk link remaining ms => .brk link remaining (min (ms + 1) Config.msPerBreakUnit)
  | .free => .free
  | .reserved v => .reserved v
  | .driven v level => .driven v level
  | .rearm v => .rearm v
  | .lockedOut => .lockedOut

/-- The limit of the qualification timer (R106): 2 ms toward assertion, 20 ms toward release. -/
def InhibitInput.limit (i : InhibitInput) : Nat := if i.inEffect then Config.releaseMs else Config.assertMs

/-- The inhibit input after one millisecond (R106). -/
def InhibitInput.tick (i : InhibitInput) : InhibitInput :=
  { i with timer := if i.disagrees then min (i.timer + 1) i.limit else 0 }

/-- The millisecond counts of every running timer, and the FB lines, after one millisecond. -/
def State.advance (s : State) : State :=
  { s with
    channels := bank fun c => { s.channel c with state := (s.channel c).state.tick }
    slots := bank fun v =>
      let x := s.slot v
      { x with lease := x.lease.map Lease.tick }
    inhibit := s.inhibit.tick
    fb := s.outside.fbNext.headD s.fb }

/-- The break of the channel has completed a unit (R14). -/
def Channel.breakDue (ch : Channel) : Bool :=
  match ch.state with
  | .brk _ _ ms => decide (Config.msPerBreakUnit ≤ ms)
  | .free => false
  | .reserved _ => false
  | .driven _ _ => false
  | .rearm _ => false
  | .lockedOut => false

/-- The step event due for slot `v`, if any (R92, R97). -/
def State.stepDue (s : State) (v : SlotNo) : Option Instr :=
  match s.lease? v with
  | none => none
  | some l => if l.termStepDue then some (.termStep v) else if l.waitStepDue then some (.waitStep v) else none

/-- The events due at this millisecond besides the settle timers: the visit (R117), the break units (R14), the steps (R89)
and the qualified changes of inhibit (R106). -/
def State.due (s : State) : List Instr :=
  .sweepVisit s.fb ::
    ((List.finRange 16).filter fun c => (s.channel c).breakDue).map Instr.breakCountdown ++
    (List.finRange 24).filterMap s.stepDue ++
    (if s.inhibit.assertDue then [.assertion] else []) ++
    (if s.inhibit.releaseDue then [.releaseOfInhibit] else [])

/-- Events in an order chosen by `order`: each is inserted among those behind it, at the place its choice names. Every order
of the events is chosen by some `order`; an empty one keeps them as they stand (DESIGN CHOICE, notes/assumptions/4.md). -/
def arrange : List Nat → List Instr → List Instr
  | _, [] => []
  | order, e :: es => (arrange order.tail es).insertIdx (order.headD 0 % (es.length + 1)) e

/-- One millisecond of the oscillator while no command waits: the timers advance, and the events due enter the queue, the
settle timers first (DEDUCED, notes/assumptions/5.md). -/
def State.millisecond (s : State) : State :=
  let s1 := s.advance
  { s1 with
    pending := .settleTimerTick :: arrange s.outside.order s1.due
    outside := { fbNext := s.outside.fbNext.tail, order := s.outside.order.drop s1.due.length } }

/-- One millisecond of device reset: no timer runs (R159). The supply's time in its range grows to 5 ms, and when it
reaches that with RESET high, completion is due (R160). -/
def State.resetMillisecond (s : State) : State :=
  let n := min (s.resetControl.supplyMs + 1) Config.supplyMs
  { s with
    resetControl := { s.resetControl with supplyMs := n }
    pending := if s.resetControl.line && n == Config.supplyMs then [.resetComplete] else [] }

/-- What the part does while no command waits. -/
def State.idle (s : State) : State := if s.resetControl.active then s.resetMillisecond else s.millisecond

end Sys2Proof.Machine
end

