-- ==== Sys2Proof/Machine/Leases.lean ====
section
/-! DEFINITION. The commands that make, work and end leases: REQUEST, RENEW, DRIVE, SHED, ALTER, RELEASE, RELEASE_ALL
and REVOKE (chapters 2 to 4). -/

namespace Sys2Proof.Machine

/-- A handle as two bytes (R176). -/
def Handle.bytes (h : Handle) : List Byte := [byteOf h.slot.val, h.gen]

/-- Levels with those of the channels of `mask` taken from `levels` (R73, R74). -/
def mergeLevels (old mask levels : Word) : Word := (old &&& ~~~mask) ||| (levels &&& mask)

/-- The lease state that a reply reports for slot `v`; FREE when the slot holds no lease (R81, R182). -/
def State.leaseStateByte (s : State) (v : SlotNo) : Byte := leaseStateCode ((s.lease? v).map Lease.state)

/-- Every channel of `set` is configured leasable (R31). -/
def State.allLeasable (s : State) (set : Word) : Bool :=
  (List.finRange 16).all fun c => !inSet set c || (s.channel c).config.leasable

/-! ### REQUEST -/

/-- The lease record at admission (R26). -/
def Lease.admitted (p : HostNo) (set levels : Word) (pr : Priority) (preemptible requeue : Bool) (term maxWait tag : Word) :
    Lease :=
  { holder := p, state := .waiting, set := set, priority := pr, preemptible := preemptible, requeue := requeue,
    term := term.toNat, remaining := 0, maxWait := maxWait.toNat, waitRemaining := maxWait.toNat,
    initial := levels &&& set, commanded := none, tag := tag, warned := false, stepMs := 0 }

/-- The outcome of a REQUEST once its pass has ended (R59, R60), for the lease in slot `v` of handle `h`. The last case
cannot arise: a lease granted in a pass is no victim of that pass (R51; notes/assumptions/15.md). -/
def State.requestOutcome (s : State) (p : HostNo) (seq : Byte) (v : SlotNo) (h : Handle) : State :=
  match s.lease? v with
  | some l =>
    match l.state with
    | .held => s.answer p seq .granted (h.bytes ++ [0])
    | .suspended => s.answer p seq .granted (h.bytes ++ [0])
    | .granting => s.answer p seq .granting (h.bytes ++ [0])
    | .waiting =>
      if l.maxWait ≠ 0 then s.answer p seq .queued (h.bytes ++ [byteOf (s.queuePosition v)])
      else ((s.dequeue v).freeSlot v).answer p seq .busy (h.bytes ++ [0])
  | none => s.answer p seq .busy (h.bytes ++ [0])

/-- An admitted REQUEST (R36): the lease enters slot `v` and the back of its priority group, and its pass runs. -/
def State.enterRequest (s : State) (v : SlotNo) (l : Lease) : State :=
  ((s.modifySlot v fun x => { x with lease := some l }).enqueueBack v l.priority).pass (some v)

/-- REQUEST: its checks in the order of R30 to R34, and its admission (R36). -/
def State.request (p : HostNo) (seq : Byte) (set levels : Word) (comp : Byte) (term maxWait tag : Word) (s : State) :
    State :=
  match competitionField comp, stepsField term, stepsField maxWait with
  | some (pr, preemptible, requeue), some t, some _ =>
    if t = 0 then s.refuse p seq .badValue
    else if set = 0 ∨ s.allLeasable set = false then s.refuse p seq .badSet
    else if (s.host p).ceiling < pr then s.refuse p seq .ceiling
    else if (s.host p).quota ≤ s.liveCount p then s.refuse p seq .quota
    else match s.lowestFree with
      | none => s.refuse p seq .tableFull
      | some v =>
        (s.enterRequest v (Lease.admitted p set levels pr preemptible requeue term maxWait tag)).requestOutcome p seq v
          (s.handle v)
  | _, _, _ => s.refuse p seq .badValue

/-- REQUEST (R30 to R36). -/
def execRequest (p : HostNo) (clocks : Nat) (seq : Byte) (set levels : Word) (comp : Byte) (term maxWait tag : Word)
    (s : State) : Host.Outcome State Fault Refusal :=
  .next (onFrame p clocks 12 (State.request p seq set levels comp term maxWait tag) s)

/-! ### RENEW -/

/-- The record of a HELD or SUSPENDED lease whose term restarts at `t` (R69). -/
def Lease.renewed (t : Nat) (l : Lease) : Lease :=
  { l with term := t, remaining := t, warned := false, stepMs := 0 }

/-- The reply to a RENEW that is executed: the term and the remaining term as the event leaves them (R68). -/
def State.answerRenew (s : State) (p : HostNo) (seq : Byte) (term remaining : Nat) : State :=
  s.answer p seq .ok (wordBytes term ++ wordBytes remaining)

/-- RENEW on the lease `l` of slot `v`, after the common checks (R68 to R70). -/
def State.renew (s : State) (p : HostNo) (seq : Byte) (newTerm : Word) (v : SlotNo) (l : Lease) : State :=
  match stepsField newTerm with
  | none => s.refuse p seq .badValue
  | some n =>
    let t := if n = 0 then l.term else n
    match l.state with
    | .waiting => s.refuse p seq .wrongState
    | .granting => (s.modifyLease v fun l => { l with term := t }).answerRenew p seq t 0
    | .held => ((s.modifyLease v (Lease.renewed t)).warningCheck v).answerRenew p seq t t
    | .suspended => ((s.modifyLease v (Lease.renewed t)).warningCheck v).answerRenew p seq t t

/-- RENEW (R68 to R70). -/
def execRenew (p : HostNo) (clocks : Nat) (seq slot gen : Byte) (newTerm : Word) (s : State) :
    Host.Outcome State Fault Refusal :=
  .next (onFrame p clocks 5 (fun s => s.onOwnLease p seq slot gen (s.renew p seq newTerm)) s)

/-! ### DRIVE -/

/-- The reply to a DRIVE that is executed: the lease state and the re-arm set (R72). -/
def State.answerDrive (s : State) (p : HostNo) (seq : Byte) (v : SlotNo) : State :=
  s.answer p seq .ok (s.leaseStateByte v :: bytesOfWord (s.rearmSet v))

/-- DRIVE on the lease `l` of slot `v`, after the common checks (R72 to R74). -/
def State.drive (s : State) (p : HostNo) (seq : Byte) (mask levels : Word) (v : SlotNo) (l : Lease) : State :=
  if subset mask l.set = false then s.refuse p seq .outsideSet
  else match l.state with
    | .suspended => s.refuse p seq .inhibited
    | .held =>
      ((s.mapChannels fun c ch => if inSet mask c then { ch with state := ch.redrive (levelOf levels c) } else ch).modifyLease v
        fun l => { l with commanded := some (mergeLevels (l.commanded.getD l.initial) mask levels) }).answerDrive p seq v
    | .waiting =>
      (s.modifyLease v fun l => { l with initial := mergeLevels l.initial mask levels }).answerDrive p seq v
    | .granting =>
      (s.modifyLease v fun l => { l with initial := mergeLevels l.initial mask levels }).answerDrive p seq v

/-- DRIVE (R72 to R75). -/
def execDrive (p : HostNo) (clocks : Nat) (seq slot gen : Byte) (mask levels : Word) (s : State) :
    Host.Outcome State Fault Refusal :=
  .next (onFrame p clocks 7 (fun s => s.onOwnLease p seq slot gen (s.drive p seq mask levels)) s)

/-! ### SHED -/

/-- A lease record without the channels of `shed` and their levels (R27, R78, R79). -/
def Lease.without (shed : Word) (l : Lease) : Lease :=
  { l with set := l.set &&& ~~~shed, initial := l.initial &&& ~~~shed, commanded := l.commanded.map (· &&& ~~~shed) }

/-- The channels of `shed` leave the lease `l` of slot `v` (R78, R79): a WAITING lease loses them from its record alone; a
GRANTING lease with no remaining channel in BREAK is held. -/
def State.shedChannels (s : State) (shed : Word) (v : SlotNo) (l : Lease) : State :=
  match l.state with
  | .waiting => s.modifyLease v (Lease.without shed)
  | .held => (s.mapSet shed Channel.leave).modifyLease v (Lease.without shed)
  | .suspended => (s.mapSet shed Channel.leave).modifyLease v (Lease.without shed)
  | .granting =>
    ((s.mapSet shed Channel.leave).modifyLease v (Lease.without shed)).holdUnlessBreak none v (l.set &&& ~~~shed)

/-- SHED on the lease `l` of slot `v`, after the common checks (R77 to R79). -/
def State.shed (s : State) (p : HostNo) (seq : Byte) (shed : Word) (v : SlotNo) (l : Lease) : State :=
  if subset shed l.set = false then s.refuse p seq .outsideSet
  else if shed = 0 ∨ shed = l.set then s.refuse p seq .badSet
  else
    let s1 := (s.shedChannels shed v l).pass none
    s1.answer p seq .ok (bytesOfWord (l.set &&& ~~~shed) ++ [s1.leaseStateByte v])

/-- SHED (R77 to R79). -/
def execShed (p : HostNo) (clocks : Nat) (seq slot gen : Byte) (set : Word) (s : State) :
    Host.Outcome State Fault Refusal :=
  .next (onFrame p clocks 5 (fun s => s.onOwnLease p seq slot gen (s.shed p seq set)) s)

/-! ### ALTER -/

/-- The competition fields written (R82), and a WAITING lease whose priority changes moved to the back of its new group
(R45). -/
def State.writeCompetition (s : State) (v : SlotNo) (l : Lease) (pr : Priority) (preemptible requeue : Bool) : State :=
  let write := fun l : Lease => { l with priority := pr, preemptible := preemptible, requeue := requeue }
  if l.state = .waiting ∧ l.priority ≠ pr then ((s.dequeue v).modifyLease v write).enqueueBack v pr
  else s.modifyLease v write

/-- ALTER on the lease `l` of slot `v`, after the common checks (R81, R82). -/
def State.alter (s : State) (p : HostNo) (seq comp : Byte) (v : SlotNo) (l : Lease) : State :=
  match competitionField comp with
  | none => s.refuse p seq .badValue
  | some (pr, preemptible, requeue) =>
    if (s.host p).ceiling < pr then s.refuse p seq .ceiling
    else
      let s1 := (s.writeCompetition v l pr preemptible requeue).pass none
      s1.answer p seq .ok [s1.leaseStateByte v, byteOf (s1.queuePosition v)]

/-- ALTER (R81, R82). -/
def execAlter (p : HostNo) (clocks : Nat) (seq slot gen comp : Byte) (s : State) : Host.Outcome State Fault Refusal :=
  .next (onFrame p clocks 4 (fun s => s.onOwnLease p seq slot gen (s.alter p seq comp)) s)

/-! ### RELEASE, RELEASE_ALL and REVOKE -/

/-- The lease in slot `v` ends without a notice (R37, R38). -/
def State.endQuietly (s : State) (v : SlotNo) : State := (s.takeOut v).freeSlot v

/-- RELEASE (R84). -/
def execRelease (p : HostNo) (clocks : Nat) (seq slot gen : Byte) (s : State) : Host.Outcome State Fault Refusal :=
  .next (onFrame p clocks 3
    (fun s => s.onOwnLease p seq slot gen fun v _ => ((s.endQuietly v).pass none).answer p seq .ok []) s)

/-- The slots whose leases host `p` holds, in ascending order (R86). -/
def State.slotsOf (s : State) (p : HostNo) : List SlotNo :=
  (List.finRange 24).filter fun v => match s.lease? v with
    | some l => l.holder == p
    | none => false

/-- RELEASE_ALL (R86): every live lease of the host ends, and one pass runs after the last. -/
def State.releaseAll (p : HostNo) (seq : Byte) (s : State) : State :=
  (((s.slotsOf p).foldl State.endQuietly s).pass none).answer p seq .ok [byteOf (s.slotsOf p).length]

/-- RELEASE_ALL (R86). -/
def execReleaseAll (p : HostNo) (clocks : Nat) (seq : Byte) (s : State) : Host.Outcome State Fault Refusal :=
  .next (onFrame p clocks 1 (State.releaseAll p seq) s)

/-- REVOKE (R87), its checks in the order of R66. -/
def State.revoke (p : HostNo) (seq slot gen : Byte) (s : State) : State :=
  if (s.host p).config = false then s.refuse p seq .noRight
  else match s.named slot gen with
    | none => s.refuse p seq .staleHandle
    | some (v, l) =>
      ((s.endLease v (.revokedAdmin (s.handle v) l.tag p)).pass none).answer p seq .ok [byteOf l.holder.val]

/-- REVOKE (R87). -/
def execRevoke (p : HostNo) (clocks : Nat) (seq slot gen : Byte) (s : State) : Host.Outcome State Fault Refusal :=
  .next (onFrame p clocks 3 (State.revoke p seq slot gen) s)

end Sys2Proof.Machine
end

