-- ==== Sys2Proof/Machine/Admin.lean ====
section
/-! DEFINITION. The commands of authority and configuration: SET_HOST, SET_CHANNEL and TABLE_RESET (chapter 9), and
CLEAR_FAULT (section 7.7). -/

namespace Sys2Proof.Machine

/-! ### SET_HOST -/

/-- Every live lease of host `h` has a priority at or below `ceiling` (R151, check 4). -/
def State.underCeiling (s : State) (h : HostNo) (ceiling : Priority) : Bool :=
  (s.slotsOf h).all fun v => s.priorityOf v ≤ ceiling

/-- A host other than `h` holds the CONFIG right (R152). -/
def State.otherAuthority (s : State) (h : HostNo) : Bool :=
  (List.finRange 4).any fun g => g != h && (s.host g).config

/-- SET_HOST: its checks in the order of R151, and the write of R153. -/
def State.setHost (p : HostNo) (seq host quota ceiling rights : Byte) (s : State) : State :=
  if (s.host p).config = false then s.refuse p seq .noRight
  else match hostFields host quota ceiling rights with
    | none => s.refuse p seq .badValue
    | some (h, q, c, config, clear) =>
      if q < s.liveCount h then s.refuse p seq .busy
      else if s.underCeiling h c = false then s.refuse p seq .busy
      else if config = false ∧ s.otherAuthority h = false then s.refuse p seq .lastAuthority
      else
        (s.modifyHost h fun r => { r with quota := q, ceiling := c, config := config, clear := clear }).answer p seq .ok
          [byteOf h.val, byteOf q, byteOf c.val, rightsByte config clear]

/-- SET_HOST (R151 to R153). -/
def execSetHost (p : HostNo) (clocks : Nat) (seq host quota ceiling rights : Byte) (s : State) :
    Host.Outcome State Fault Refusal :=
  .next (onFrame p clocks 5 (State.setHost p seq host quota ceiling rights) s)

/-! ### SET_CHANNEL -/

/-- A WAITING lease has channel `c` in its set (R156, check 4). -/
def State.waitedFor (s : State) (c : ChannelNo) : Bool :=
  (List.finRange 24).any fun v => match s.lease? v with
    | some l => l.state == .waiting && inSet l.set c
    | none => false

/-- A FREE or LOCKED_OUT channel after the configuration `k` is written (R8, R130). -/
def Channel.configure (k : ChannelConfig) (ch : Channel) : Channel :=
  if k.feedback = false then
    { ch with config := k, fault := FaultRecord.healthy, state := if ch.state = .lockedOut then .free else ch.state }
  else match ch.fault.state with
    | .suspect => { ch with config := k, fault := FaultRecord.healthy }
    | .healthy => { ch with config := k }
    | .faulted => { ch with config := k, state := if k.policy = .latchOff then .lockedOut else ch.state }

/-- SET_CHANNEL: its checks in the order of R156, the write, and the pass of R157 when it has made the channel
grantable (DEDUCED, notes/assumptions/22.md). -/
def State.setChannel (p : HostNo) (seq channel flags breakTime settleTime threshold : Byte) (s : State) : State :=
  if (s.host p).config = false then s.refuse p seq .noRight
  else match channelField channel, configField flags breakTime settleTime threshold with
    | some c, some k =>
      if (s.channel c).state ≠ .free ∧ (s.channel c).state ≠ .lockedOut then s.refuse p seq .busy
      else if k.leasable = false ∧ s.waitedFor c = true then s.refuse p seq .busy
      else
        let s1 := s.modifyChannel c (Channel.configure k)
        let s2 := if (s.channel c).available = false ∧ (s1.channel c).available = true then s1.pass none else s1
        s2.answer p seq .ok ([byteOf c.val, (s2.channel c).state.code] ++ configBytes k)
    | _, _ => s.refuse p seq .badValue

/-- SET_CHANNEL (R156, R157). -/
def execSetChannel (p : HostNo) (clocks : Nat) (seq channel flags breakTime settleTime threshold : Byte) (s : State) :
    Host.Outcome State Fault Refusal :=
  .next (onFrame p clocks 6 (State.setChannel p seq channel flags breakTime settleTime threshold) s)

/-! ### TABLE_RESET -/

/-- A slot after TABLE_RESET (R43): the generation advances where a live lease was. -/
def Slot.clear (x : Slot) : Slot :=
  match x.lease with
  | some _ => { gen := x.gen + 1, lease := none }
  | none => x

/-- What TABLE_RESET does to the part (R20, R43, R145): every channel leaves its lease, every slot is FREE, the wait queue
is empty, and every notice queue holds one TABLE_RESET record. The fault records stand here (R43, R161); a SUSPECT one of a
channel whose output level changes returns to HEALTHY at the end of the event (R20, R120; DEDUCED, notes/assumptions/23.md). -/
def State.clearTable (s : State) : State :=
  { s with
    channels := bank fun c => { s.channel c with state := (s.channel c).leave }
    slots := bank fun v => (s.slot v).clear
    waitQueue := []
    hosts := bank fun h => { s.host h with notices := [.tableReset] } }

/-- The number of live leases (R161). -/
def State.liveLeases (s : State) : Nat := (List.finRange 24).countP fun v => (s.lease? v).isSome

/-- TABLE_RESET (R161). -/
def State.tableReset (p : HostNo) (seq : Byte) (s : State) : State :=
  if (s.host p).config = false then s.refuse p seq .noRight
  else s.clearTable.answer p seq .ok [byteOf s.liveLeases]

/-- TABLE_RESET (R161). -/
def execTableReset (p : HostNo) (clocks : Nat) (seq : Byte) (s : State) : Host.Outcome State Fault Refusal :=
  .next (onFrame p clocks 1 (State.tableReset p seq) s)

/-! ### CLEAR_FAULT -/

/-- Host `p` may clear a fault of channel `c` (R128, check 2): it holds the CLEAR right, or the lease that owns or reserves
the channel. -/
def State.mayClear (s : State) (p : HostNo) (c : ChannelNo) : Bool :=
  (s.host p).clear || match (s.channel c).state.link with
    | none => false
    | some v => match s.lease? v with
      | some l => l.holder == p
      | none => false

/-- A channel whose fault is cleared (R129): HEALTHY, and out of lockout. -/
def Channel.clearFault (ch : Channel) : Channel :=
  { ch with fault := FaultRecord.healthy, state := if ch.state = .lockedOut then .free else ch.state }

/-- CLEAR_FAULT: its checks in the order of R128, the clear and its pass (R129). -/
def State.clearFault (p : HostNo) (seq channel : Byte) (s : State) : State :=
  match channelField channel with
  | none => s.refuse p seq .badValue
  | some c =>
    if s.mayClear p c = false then s.refuse p seq .noRight
    else if (s.channel c).fault.state ≠ .faulted then s.refuse p seq .notFaulted
    else if (s.channel c).fault.present = true then s.refuse p seq .stillPresent
    else ((s.modifyChannel c Channel.clearFault).pass none).answer p seq .ok []

/-- CLEAR_FAULT (R128, R129). -/
def execClearFault (p : HostNo) (clocks : Nat) (seq channel : Byte) (s : State) : Host.Outcome State Fault Refusal :=
  .next (onFrame p clocks 2 (State.clearFault p seq channel) s)

end Sys2Proof.Machine
end

