-- ==== Sys2Proof/Machine/Notices.lean ====
section
/-! DEFINITION. The notice commands: READ_NOTICE and SET_NOTICES, and the notice record on the wire (chapter 8, R181). -/

namespace Sys2Proof.Machine

/-- A notice record of 13 bytes (R181), a field that is not carried sent as 0. -/
def noticeBytes (code : Nat) (lease : Option (Handle × Word)) (channel : Nat) (kind : FaultKind) (set : Word)
    (remaining cause revoker : Nat) : List Byte :=
  let head := match lease with
    | some (h, tag) => byteOf 1 :: h.bytes ++ bytesOfWord tag
    | none => [0, 0, 0, 0, 0]
  byteOf code :: head ++ [byteOf channel, kind.code] ++ bytesOfWord set ++ [byteOf remaining, byteOf cause, byteOf revoker]

/-- The record of a notice on the wire: the fields of its kind (R135) in the layout of R181. -/
def Notice.bytes (n : Notice) : List Byte :=
  match n with
  | .powerOn => noticeBytes n.code none 0 .none 0 0 0 0
  | .tableReset => noticeBytes n.code none 0 .none 0 0 0 0
  | .overflow => noticeBytes n.code none 0 .none 0 0 0 0
  | .granted h tag => noticeBytes n.code (some (h, tag)) 0 .none 0 0 0 0
  | .waitTimeout h tag => noticeBytes n.code (some (h, tag)) 0 .none 0 0 0 0
  | .expiring h tag remaining => noticeBytes n.code (some (h, tag)) 0 .none 0 remaining 0 0
  | .expired h tag => noticeBytes n.code (some (h, tag)) 0 .none 0 0 0 0
  | .preempted h tag taken => noticeBytes n.code (some (h, tag)) 0 .none taken 0 0 0
  | .requeued h tag => noticeBytes n.code (some (h, tag)) 0 .none 0 0 0 0
  | .revokedFault h tag channel kind => noticeBytes n.code (some (h, tag)) channel.val kind 0 0 1 0
  | .revokedAdmin h tag revoker => noticeBytes n.code (some (h, tag)) 0 .none 0 0 2 revoker.val
  | .channelFault channel kind lease => noticeBytes n.code lease channel.val kind 0 0 0 0
  | .inhibitOn => noticeBytes n.code none 0 .none 0 0 0 0
  | .inhibitOff => noticeBytes n.code none 0 .none 0 0 0 0

/-- The record of kind NONE: 13 zero bytes (R181). -/
def noneRecord : List Byte := List.replicate 13 0

/-- READ_NOTICE (R140): the oldest record of the requesting host is removed and returned with the count left behind it. -/
def State.readNotice (p : HostNo) (seq : Byte) (s : State) : State :=
  match (s.host p).notices with
  | [] => s.answer p seq .ok (noneRecord ++ [0])
  | n :: rest => (s.modifyHost p fun r => { r with notices := rest }).answer p seq .ok (n.bytes ++ [byteOf rest.length])

/-- READ_NOTICE (R140). -/
def execReadNotice (p : HostNo) (clocks : Nat) (seq : Byte) (s : State) : Host.Outcome State Fault Refusal :=
  .next (onFrame p clocks 1 (State.readNotice p seq) s)

/-- SET_NOTICES (R142): mask and lead written whole. -/
def State.setNotices (p : HostNo) (seq : Byte) (mask : Word) (lead : Byte) (s : State) : State :=
  match maskField mask with
  | none => s.refuse p seq .badValue
  | some m =>
    (s.modifyHost p fun r => { r with mask := m, lead := lead.toNat }).answer p seq .ok (bytesOfWord m ++ [lead])

/-- SET_NOTICES (R142). -/
def execSetNotices (p : HostNo) (clocks : Nat) (seq : Byte) (mask : Word) (lead : Byte) (s : State) :
    Host.Outcome State Fault Refusal :=
  .next (onFrame p clocks 4 (State.setNotices p seq mask lead) s)

end Sys2Proof.Machine
end

