-- ==== Sys2Proof/Machine/Queries.lean ====
section
/-! DEFINITION. The queries: QUERY_LEASE, LIST_LEASES, QUERY_CHANNEL, QUERY_STATUS and READ_HOST. They change nothing but
the reply buffer of the requesting port. -/

namespace Sys2Proof.Machine

/-- A flags byte of six flags, bit 0 first. -/
def flagsByte (b0 b1 b2 b3 b4 b5 : Bool) : Byte :=
  (0 : BitVec 2) ++ BitVec.ofBool b5 ++ BitVec.ofBool b4 ++ BitVec.ofBool b3 ++ BitVec.ofBool b2 ++ BitVec.ofBool b1 ++
    BitVec.ofBool b0

/-- The 25 bytes of the QUERY_LEASE reply (R40, R179). -/
def State.leaseFields (s : State) (v : SlotNo) (l : Lease) : List Byte :=
  (s.handle v).bytes ++ [byteOf l.holder.val, leaseStateCode (some l.state)] ++ bytesOfWord l.set ++ [competitionByte l] ++
    wordBytes l.term ++ wordBytes l.remaining ++ wordBytes l.maxWait ++ wordBytes l.waitRemaining ++
    bytesOfWord l.initial ++ bytesOfWord (l.commanded.getD 0) ++ bytesOfWord (s.rearmSet v) ++ bytesOfWord l.tag ++
    [flagsByte l.warned l.commanded.isSome false false false false, byteOf (s.queuePosition v)]

/-- QUERY_LEASE (R40): any host may query any live lease. -/
def State.queryLease (p : HostNo) (seq slot gen : Byte) (s : State) : State :=
  match s.named slot gen with
  | none => s.refuse p seq .staleHandle
  | some (v, l) => s.answer p seq .ok (s.leaseFields v l)

/-- QUERY_LEASE (R40). -/
def execQueryLease (p : HostNo) (clocks : Nat) (seq slot gen : Byte) (s : State) : Host.Outcome State Fault Refusal :=
  .next (onFrame p clocks 3 (State.queryLease p seq slot gen) s)

/-- The channel is linked to a lease of host `p`. -/
def State.linkedTo (s : State) (p : HostNo) (ch : Channel) : Bool :=
  match ch.state.link with
  | none => false
  | some v => match s.lease? v with
    | some l => l.holder == p
    | none => false

/-- The channel is DRIVEN or REARM under a lease of host `p` (R41). -/
def State.ownedBy (s : State) (p : HostNo) (ch : Channel) : Bool :=
  s.linkedTo p ch && (ch.state.isDriven || ch.state.isRearm)

/-- The channel is RESERVED, or in a reserved BREAK, for a lease of host `p` (R41). -/
def State.reservedFor (s : State) (p : HostNo) (ch : Channel) : Bool :=
  s.linkedTo p ch && !(ch.state.isDriven || ch.state.isRearm)

/-- The result fields of LIST_LEASES from slot `start` (R41, R179): entry count, MORE flag, live-lease count, owned,
reserved and re-arm sets, and the entries. -/
def State.listFields (s : State) (p : HostNo) (start : SlotNo) : List Byte :=
  let listed := (s.slotsOf p).filter (start ≤ ·)
  let entries := listed.take Config.listRoom
  [byteOf entries.length, flagsByte (Config.listRoom < listed.length) false false false false false,
      byteOf (s.liveCount p)] ++
    bytesOfWord (s.channelsThat (s.ownedBy p)) ++ bytesOfWord (s.channelsThat (s.reservedFor p)) ++
    bytesOfWord (s.channelsThat fun ch => s.ownedBy p ch && ch.state.isRearm) ++
    entries.flatMap fun v => (s.handle v).bytes ++ [s.leaseStateByte v]

/-- LIST_LEASES (R41). -/
def State.listLeases (p : HostNo) (seq start : Byte) (s : State) : State :=
  match slotField start with
  | none => s.refuse p seq .badValue
  | some v => s.answer p seq .ok (s.listFields p v)

/-- LIST_LEASES (R41). -/
def execListLeases (p : HostNo) (clocks : Nat) (seq start : Byte) (s : State) : Host.Outcome State Fault Refusal :=
  .next (onFrame p clocks 2 (State.listLeases p seq start) s)

/-- The 14 bytes of the QUERY_CHANNEL reply (R18, R179). -/
def State.channelFields (s : State) (c : ChannelNo) : List Byte :=
  let ch := s.channel c
  let link := ch.state.link
  let commanded := ch.state.commanded
  [byteOf c.val, ch.state.code] ++
    (match link with
      | some v => (s.handle v).bytes
      | none => [0, 0]) ++
    [flagsByte link.isSome commanded.isSome (commanded.getD false) ch.output (levelOf s.fb c) ch.fault.present,
      byteOf ch.state.breakRemaining, byteOf ch.settle] ++
    configBytes ch.config ++ [ch.fault.state.code, byteOf ch.fault.count, ch.fault.kind.code]

/-- QUERY_CHANNEL (R18). -/
def State.queryChannel (p : HostNo) (seq channel : Byte) (s : State) : State :=
  match channelField channel with
  | none => s.refuse p seq .badValue
  | some c => s.answer p seq .ok (s.channelFields c)

/-- The FB lines stand at `fb` (R6). -/
def State.setFb (s : State) (fb : Word) : State := { s with fb := fb }

/-- QUERY_CHANNEL (R18), with the FB lines at `fb` when it is taken (R6). -/
def execQueryChannel (p : HostNo) (clocks : Nat) (seq channel : Byte) (fb : Word) (s : State) :
    Host.Outcome State Fault Refusal :=
  .next (onFrame p clocks 2 (State.queryChannel p seq channel) (s.setFb fb))

/-- The number of FREE slots (R162). -/
def State.freeCount (s : State) : Nat := (List.finRange 24).countP fun v => (s.lease? v).isNone

/-- The 12 bytes of the QUERY_STATUS reply (R162, R179). -/
def State.statusFields (s : State) (p : HostNo) : List Byte :=
  [Config.partCode, Config.revision, flagsByte s.inhibit.inEffect false false false false false, byteOf s.freeCount,
      byteOf s.waitQueue.length] ++
    bytesOfWord (s.channelsThat fun ch => ch.state.isDriven) ++
    bytesOfWord (s.channelsThat fun ch => ch.fault.state == .faulted) ++
    bytesOfWord (s.channelsThat fun ch => ch.state == .lockedOut) ++ [byteOf (s.host p).notices.length]

/-- QUERY_STATUS (R162). -/
def execQueryStatus (p : HostNo) (clocks : Nat) (seq : Byte) (s : State) : Host.Outcome State Fault Refusal :=
  .next (onFrame p clocks 1 (fun s => s.answer p seq .ok (s.statusFields p)) s)

/-- The 8 bytes of the READ_HOST reply (R155, R179). -/
def State.hostStanding (s : State) (h : HostNo) : List Byte :=
  let r := s.host h
  [byteOf h.val, byteOf r.quota, byteOf r.ceiling.val, rightsByte r.config r.clear, byteOf (s.liveCount h), byteOf r.lead] ++
    bytesOfWord r.mask

/-- READ_HOST (R155): any host may read any host. -/
def State.readHost (p : HostNo) (seq host : Byte) (s : State) : State :=
  match hostField host with
  | none => s.refuse p seq .badValue
  | some h => s.answer p seq .ok (s.hostStanding h)

/-- READ_HOST (R155). -/
def execReadHost (p : HostNo) (clocks : Nat) (seq host : Byte) (s : State) : Host.Outcome State Fault Refusal :=
  .next (onFrame p clocks 2 (State.readHost p seq host) s)

end Sys2Proof.Machine
end

