-- ==== Sys2Proof/Machine/Ports.lean ====
section
/-! DEFINITION. The rows of the ports themselves: NOOP, FRAME_START and FRAME_ERROR (chapter 10). -/

namespace Sys2Proof.Machine

/-- NOOP (R172): what every valid frame does, and nothing else. -/
def execNoop (p : HostNo) (clocks : Nat) (s : State) : Host.Outcome State Fault Refusal :=
  .next (onFrame p clocks 0 id s)

/-- What port `p` presents in a frame that begins now (R169, R170). -/
def State.presented (s : State) (p : HostNo) : Shifting :=
  { status := statusByte (s.host p) s.inhibit.inEffect (s.port p), record := (s.port p).reply.record }

/-- FRAME_START (R164, R169): the falling edge of the select line of port `p`. A line that is low already has no falling
edge; while device reset is in progress the line falls and no frame begins (R175). -/
def execFrameStart (p : HostNo) (s : State) : Host.Outcome State Fault Refusal :=
  if (s.port p).selLow then .next s
  else if s.resetControl.active then .next (s.modifyPort p fun x => { x with selLow := true })
  else .next (s.modifyPort p fun x => { x with selLow := true, frame := some (s.presented p) })

/-- The command of a valid frame, executed (R168); a row that no frame carries is none. -/
def executeRow (row : Option Instr) (s : State) : Host.Outcome State Fault Refusal :=
  match row with
  | some (.noop p n) => execNoop p n s
  | some (.request p n seq set levels comp term maxWait tag) => execRequest p n seq set levels comp term maxWait tag s
  | some (.renew p n seq slot gen newTerm) => execRenew p n seq slot gen newTerm s
  | some (.drive p n seq slot gen mask levels) => execDrive p n seq slot gen mask levels s
  | some (.shed p n seq slot gen set) => execShed p n seq slot gen set s
  | some (.alter p n seq slot gen comp) => execAlter p n seq slot gen comp s
  | some (.release p n seq slot gen) => execRelease p n seq slot gen s
  | some (.releaseAll p n seq) => execReleaseAll p n seq s
  | some (.queryLease p n seq slot gen) => execQueryLease p n seq slot gen s
  | some (.listLeases p n seq start) => execListLeases p n seq start s
  | some (.queryChannel p n seq channel fb) => execQueryChannel p n seq channel fb s
  | some (.queryStatus p n seq) => execQueryStatus p n seq s
  | some (.readNotice p n seq) => execReadNotice p n seq s
  | some (.clearFault p n seq channel) => execClearFault p n seq channel s
  | some (.setNotices p n seq mask lead) => execSetNotices p n seq mask lead s
  | some (.setChannel p n seq channel flags breakTime settleTime threshold) =>
    execSetChannel p n seq channel flags breakTime settleTime threshold s
  | some (.setHost p n seq host quota ceiling rights) => execSetHost p n seq host quota ceiling rights s
  | some (.readHost p n seq host) => execReadHost p n seq host s
  | some (.revoke p n seq slot gen) => execRevoke p n seq slot gen s
  | some (.tableReset p n seq) => execTableReset p n seq s
  | _ => .next s

/-- FRAME_ERROR (R167): the rising edge of the select line of port `p` after a frame whose sampled bits are `bits`. A
frame that fails sets FRAME_ERROR with its kind; a frame without a clock is ignored (R164). A frame that passes validation
is no frame error, and its command is executed (R168). -/
def execFrameError (p : HostNo) (bits : List Bool) (s : State) : Host.Outcome State Fault Refusal :=
  match validate bits with
  | .ignored => .next (frameEnd p 0 id s)
  | .failed kind => .next (frameEnd p bits.length (fun s => s.modifyPort p (PortRecord.fail kind)) s)
  | .valid op payload => executeRow (commandOf p bits.length s.fb op payload) s

end Sys2Proof.Machine
end

