-- ==== Sys2Proof/Machine/Resets.lean ====
section
/-! DEFINITION. Device reset: DEVICE_RESET and RESET_COMPLETE (section 9.6). -/

namespace Sys2Proof.Machine

/-- Device reset begins (R159, R175): every frame in progress is abandoned, and from here the part takes no event. The
inhibit qualifier stands still from its reset state (R114). The banks keep what they held until completion (DEDUCED,
notes/assumptions/12.md). -/
def State.beginReset (s : State) (line : Level) (supplyMs : Nat) : State :=
  { s with
    resetControl := { active := true, line := line, supplyMs := supplyMs }
    inhibit := { s.inhibit with timer := 0 }
    ports := bank fun p => { s.port p with frame := none } }

/-- DEVICE_RESET (R159): power-on, or a RESET low pulse of 1 µs or more; a shorter pulse does nothing. -/
def execDeviceReset (cause : ResetCause) (s : State) : Host.Outcome State Fault Refusal :=
  match cause with
  | .powerOn resetHigh => .next (s.beginReset resetHigh 0)
  | .resetLine ns =>
    if Config.resetPulseNs ≤ ns then .next (s.beginReset false s.resetControl.supplyMs) else .next s

/-- The part at the completion of device reset (R160): every block takes its reset values in the one event. The lines stand
as the outside holds them: FB, INHIBIT (R114) and the select lines (R175). -/
def State.completeReset (s : State) : State :=
  { State.reset with
    ports := bank fun p => PortRecord.reset (s.port p).selLow
    inhibit := { inEffect := false, timer := 0, line := s.inhibit.line }
    fb := s.fb
    outside := s.outside
    pending := s.pending }

/-- RESET_COMPLETE (R160): the RESET line is high. Device reset completes when the supply has stood in its range for 5 ms;
before that the line alone has risen, and completion follows at 5 ms. Outside device reset there is nothing to complete. -/
def execResetComplete (s : State) : Host.Outcome State Fault Refusal :=
  if s.resetControl.active = false then .next s
  else if Config.supplyMs ≤ s.resetControl.supplyMs then .next s.completeReset
  else .next { s with resetControl := { s.resetControl with line := true } }

end Sys2Proof.Machine
end

