-- ==== Sys2Proof/Machine/Supervision.lean ====
section
/-! DEFINITION. The supervision monitor: SWEEP_VISIT, counting, confirmation and the fault policies (chapter 7). -/

namespace Sys2Proof.Machine

/-- The fault kind recorded at a disagreement with this output level (R119). -/
def disagreementKind (output : Level) : FaultKind := if output then .stuckOff else .stuckOn

/-- The lease in slot `v` is revoked for the fault `kind` of channel `c` (R123): lease-end procedure, REVOKED with cause
FAULT, and the pass. -/
def State.revokeForFault (s : State) (c : ChannelNo) (kind : FaultKind) (v : SlotNo) (l : Lease) : State :=
  (s.endLease v (.revokedFault (s.handle v) l.tag c kind)).pass none

/-- The lease linked to channel `c`, with its slot (R121). -/
def State.linkedLease (s : State) (c : ChannelNo) : Option (SlotNo × Lease) :=
  match (s.channel c).state.link with
  | none => none
  | some v => (s.lease? v).map fun l => (v, l)

/-- The CHANNEL_FAULT notice (R121): to the holder of the linked lease alone, or to every host. -/
def State.reportFault (s : State) (c : ChannelNo) (kind : FaultKind) : Option (SlotNo × Lease) → State
  | some (v, l) => s.notify l.holder (.channelFault c kind (some (s.handle v, l.tag)))
  | none => s.notifyAll (.channelFault c kind none)

/-- The channel is locked out (R124, step 1): the link, the commanded level and any break are gone. -/
def State.lockOut (s : State) (c : ChannelNo) : State :=
  s.modifyChannel c fun ch => { ch with state := .lockedOut }

/-- The policy of a confirmed fault applied (R122 to R124), the linked lease being `linked`. -/
def State.applyPolicy (s : State) (c : ChannelNo) (kind : FaultKind) (linked : Option (SlotNo × Lease)) : State :=
  match (s.channel c).config.policy, linked with
  | .report, _ => s
  | .revoke, none => s
  | .revoke, some (v, l) => s.revokeForFault c kind v l
  | .latchOff, none => s.lockOut c
  | .latchOff, some (v, l) => (s.lockOut c).revokeForFault c kind v l

/-- The fault `kind` of channel `c` is confirmed at a count of `n` (R121). -/
def State.confirm (s : State) (c : ChannelNo) (kind : FaultKind) (n : Nat) : State :=
  let s1 := s.modifyChannel c fun ch =>
    { ch with fault := { state := .faulted, count := n, kind := kind, present := true } }
  (s1.reportFault c kind (s.linkedLease c)).applyPolicy c kind (s.linkedLease c)

/-- A comparison that disagrees on a channel that is not FAULTED leaves the mismatch count at `n` (R119). -/
def State.countDisagreement (s : State) (c : ChannelNo) (n : Nat) : State :=
  let ch := s.channel c
  if ch.config.threshold ≤ n then s.confirm c (disagreementKind ch.output) n
  else s.modifyChannel c fun ch =>
    { ch with fault := { state := .suspect, count := n, kind := disagreementKind ch.output, present := false } }

/-- A comparison on channel `c`, which `disagrees` or agrees (R119, R126). -/
def State.compare (s : State) (c : ChannelNo) (disagrees : Bool) : State :=
  let ch := s.channel c
  match ch.fault.state with
  | .faulted => s.modifyChannel c fun ch => { ch with fault := { ch.fault with present := disagrees } }
  | .healthy => if disagrees then s.countDisagreement c 1 else s
  | .suspect =>
    if disagrees then s.countDisagreement c (ch.fault.count + 1)
    else s.modifyChannel c fun ch => { ch with fault := FaultRecord.healthy }

/-- A visit to channel `c` (R118). -/
def State.visit (s : State) (c : ChannelNo) : State :=
  let ch := s.channel c
  if ch.config.feedback = true ∧ ch.config.settleTime ≤ ch.settle then
    s.compare c (levelOf s.fb c != ch.output)
  else s

/-- The visit of the sweep (R117): to the channel at the sweep position, which moves on. -/
def State.sweepVisit (s : State) : State := { s with sweep := s.sweep + 1 }.visit s.sweep

/-- The FB lines stand at `fb` when the visit samples them (R6, R117). -/
def State.sampleFb (s : State) (fb : Word) : State := { s with fb := fb }

/-- SWEEP_VISIT (R117, R118), with the FB lines at `fb`. -/
def execSweepVisit (fb : Word) (s : State) : Host.Outcome State Fault Refusal :=
  .next (event State.sweepVisit (s.sampleFb fb))

end Sys2Proof.Machine
end

