-- ==== Sys2Proof/Machine/Dispatch.lean ====
section
/-! DEFINITION. Which meaning each row of the table has. -/

namespace Sys2Proof.Machine

def exec (i : Instr) (s : State) : Host.Outcome State Fault Refusal :=
  match i with
  | .noop p clocks => Sys2Proof.Machine.execNoop p clocks s
  | .request p clocks seq set levels comp term maxWait tag => Sys2Proof.Machine.execRequest p clocks seq set levels comp term maxWait tag s
  | .renew p clocks seq slot gen newTerm => Sys2Proof.Machine.execRenew p clocks seq slot gen newTerm s
  | .drive p clocks seq slot gen mask levels => Sys2Proof.Machine.execDrive p clocks seq slot gen mask levels s
  | .shed p clocks seq slot gen set => Sys2Proof.Machine.execShed p clocks seq slot gen set s
  | .alter p clocks seq slot gen comp => Sys2Proof.Machine.execAlter p clocks seq slot gen comp s
  | .release p clocks seq slot gen => Sys2Proof.Machine.execRelease p clocks seq slot gen s
  | .releaseAll p clocks seq => Sys2Proof.Machine.execReleaseAll p clocks seq s
  | .queryLease p clocks seq slot gen => Sys2Proof.Machine.execQueryLease p clocks seq slot gen s
  | .listLeases p clocks seq start => Sys2Proof.Machine.execListLeases p clocks seq start s
  | .queryChannel p clocks seq channel fb => Sys2Proof.Machine.execQueryChannel p clocks seq channel fb s
  | .queryStatus p clocks seq => Sys2Proof.Machine.execQueryStatus p clocks seq s
  | .readNotice p clocks seq => Sys2Proof.Machine.execReadNotice p clocks seq s
  | .clearFault p clocks seq channel => Sys2Proof.Machine.execClearFault p clocks seq channel s
  | .setNotices p clocks seq mask lead => Sys2Proof.Machine.execSetNotices p clocks seq mask lead s
  | .setChannel p clocks seq channel flags breakTime settleTime threshold => Sys2Proof.Machine.execSetChannel p clocks seq channel flags breakTime settleTime threshold s
  | .setHost p clocks seq host quota ceiling rights => Sys2Proof.Machine.execSetHost p clocks seq host quota ceiling rights s
  | .readHost p clocks seq host => Sys2Proof.Machine.execReadHost p clocks seq host s
  | .revoke p clocks seq slot gen => Sys2Proof.Machine.execRevoke p clocks seq slot gen s
  | .tableReset p clocks seq => Sys2Proof.Machine.execTableReset p clocks seq s
  | .frameStart p => Sys2Proof.Machine.execFrameStart p s
  | .frameError p bits => Sys2Proof.Machine.execFrameError p bits s
  | .deviceReset cause => Sys2Proof.Machine.execDeviceReset cause s
  | .resetComplete => Sys2Proof.Machine.execResetComplete s
  | .termStep v => Sys2Proof.Machine.execTermStep v s
  | .expiry v => Sys2Proof.Machine.execExpiry v s
  | .waitStep v => Sys2Proof.Machine.execWaitStep v s
  | .waitTimeout v => Sys2Proof.Machine.execWaitTimeout v s
  | .breakEndReserved c => Sys2Proof.Machine.execBreakEndReserved c s
  | .breakEndUnreserved c => Sys2Proof.Machine.execBreakEndUnreserved c s
  | .sweepVisit fb => Sys2Proof.Machine.execSweepVisit fb s
  | .inhibitLineChange level => Sys2Proof.Machine.execInhibitLineChange level s
  | .assertion => Sys2Proof.Machine.execAssertion s
  | .releaseOfInhibit => Sys2Proof.Machine.execReleaseOfInhibit s
  | .breakCountdown c => Sys2Proof.Machine.execBreakCountdown c s
  | .settleTimerTick => Sys2Proof.Machine.execSettleTimerTick s

end Sys2Proof.Machine
end

