-- ==== Sys2Proof/WellFormed.lean ====
section
/-! DEFINITION. Which rows are events the TB-416 can meet as they stand: a command comes in a frame whose length fits
it, and FRAME_ERROR with a frame that fails validation. -/

namespace Sys2Proof

/-- The clock count `clocks` is that of a valid frame with a payload of `payload` bytes (R165, R167): whole bytes, at
least opcode, payload and check byte, at most 64. -/
def clocksFit (payload clocks : Nat) : Bool := lengthError payload clocks == none

/-- A row as the part can meet it. A command's frame has a length that fits its payload; the frame of FRAME_ERROR fails
validation; every other row stands as it is. -/
def Instr.wellFormed : Instr → Bool
  | .noop _ n => clocksFit 0 n
  | .request _ n _ _ _ _ _ _ _ => clocksFit 12 n
  | .renew _ n _ _ _ _ => clocksFit 5 n
  | .drive _ n _ _ _ _ _ => clocksFit 7 n
  | .shed _ n _ _ _ _ => clocksFit 5 n
  | .alter _ n _ _ _ _ => clocksFit 4 n
  | .release _ n _ _ _ => clocksFit 3 n
  | .releaseAll _ n _ => clocksFit 1 n
  | .queryLease _ n _ _ _ => clocksFit 3 n
  | .listLeases _ n _ _ => clocksFit 2 n
  | .queryChannel _ n _ _ _ => clocksFit 2 n
  | .queryStatus _ n _ => clocksFit 1 n
  | .readNotice _ n _ => clocksFit 1 n
  | .clearFault _ n _ _ => clocksFit 2 n
  | .setNotices _ n _ _ _ => clocksFit 4 n
  | .setChannel _ n _ _ _ _ _ _ => clocksFit 6 n
  | .setHost _ n _ _ _ _ _ => clocksFit 5 n
  | .readHost _ n _ _ => clocksFit 2 n
  | .revoke _ n _ _ _ => clocksFit 3 n
  | .tableReset _ n _ => clocksFit 1 n
  | .frameStart _ => true
  | .frameError _ bits =>
    match validate bits with
    | .failed _ => true
    | .ignored => false
    | .valid _ _ => false
  | .deviceReset _ => true
  | .resetComplete => true
  | .termStep _ => true
  | .expiry _ => true
  | .waitStep _ => true
  | .waitTimeout _ => true
  | .breakEndReserved _ => true
  | .breakEndUnreserved _ => true
  | .sweepVisit _ => true
  | .inhibitLineChange _ => true
  | .assertion => true
  | .releaseOfInhibit => true
  | .breakCountdown _ => true
  | .settleTimerTick => true

end Sys2Proof
end

