-- ==== Sys2Proof/Safety.lean ====
section
/-! DEFINITION. The terms in which claims about the TB-416 are stated: when a port takes a frame, what a command leaves in
its port, which lease a handle names, and the laws of the device that hold between events. -/

namespace Sys2Proof

/-! ### Rows -/

/-- The FB lines as row `i` finds them (R6): the rows that sample them carry their levels. -/
def Instr.fbLines (i : Instr) (fb : Word) : Word :=
  match i with
  | .queryChannel _ _ _ _ levels => levels
  | .sweepVisit levels => levels
  | _ => fb

/-- The port whose select line the row moves, if any. -/
def Instr.portOf (i : Instr) : Option HostNo :=
  match i with
  | .frameStart p => some p
  | .frameError p _ => some p
  | i => i.frame?.map Prod.fst

end Sys2Proof

namespace Sys2Proof.Machine

/-! ### Frames and handles -/

/-- The rising edge of the select line of port `p` ends a frame: device reset is not in progress (R159), and the line is not
one that has stood low since before its completion (R175). A port whose line is high takes a whole frame. -/
def State.listens (s : State) (p : HostNo) : Bool :=
  !s.resetControl.active && (!(s.port p).selLow || (s.port p).frame.isSome)

/-- A port after a valid frame of a command other than NOOP, whose reply is `r` (R168, R171). -/
def PortRecord.replied (r : Reply) (x : PortRecord) : PortRecord :=
  { selLow := false, frame := none, reply := r, unread := true, frameError := false, errorKind := x.errorKind }

/-- The state with port `p` as a valid command leaves it, its reply being `result` with `fields` (R168, R171, R178). -/
def State.replied (s : State) (p : HostNo) (seq : Byte) (result : Result) (fields : List Byte) : State :=
  s.modifyPort p (PortRecord.replied { seq := seq, result := result, fields := fields })

/-- A port after a frame of `clocks` clocks that leaves its reply buffer alone; `frameError` and `kind` are its flags after
it (R171). -/
def PortRecord.ended (clocks : Nat) (frameError : Bool) (kind : FrameErrorKind) (x : PortRecord) : PortRecord :=
  { selLow := false, frame := none, reply := x.reply,
    unread := if 8 * (x.reply.fields.length + 2 + 3) ≤ clocks then false else x.unread,
    frameError := frameError, errorKind := kind }

/-- The two bytes of a handle name the live lease `l` in slot `v` (R23). -/
abbrev State.names (s : State) (slot gen : Byte) (v : SlotNo) (l : Lease) : Prop :=
  slot.toNat = v.val ∧ s.lease? v = some l ∧ (s.slot v).gen = gen

/-! ### Leases -/

/-- The outcome of the checks of REQUEST, in their order (R30 to R34); none when every check passes. -/
def State.requestCheck (s : State) (p : HostNo) (set : Word) (comp : Byte) (term maxWait : Word) : Option Result :=
  if term = 0 ∨ 6000 < term.toNat ∨ 6000 < maxWait.toNat ∨ comp &&& 0x07 ≠ 0 then some .badValue
  else if set = 0 ∨ ∃ c, inSet set c = true ∧ (s.channel c).config.leasable = false then some .badSet
  else if (s.host p).ceiling < (comp.extractLsb' 5 3).toFin then some .ceiling
  else if (s.host p).quota ≤ s.liveCount p then some .quota
  else if ∀ v, s.lease? v ≠ none then some .tableFull
  else none

/-- The lease record at admission (R26). -/
def requestRecord (p : HostNo) (set levels : Word) (comp : Byte) (term maxWait tag : Word) : Lease :=
  { holder := p, state := .waiting, set := set, priority := (comp.extractLsb' 5 3).toFin, preemptible := comp.getLsbD 4,
    requeue := comp.getLsbD 3, term := term.toNat, remaining := 0, maxWait := maxWait.toNat,
    waitRemaining := maxWait.toNat, initial := levels &&& set, commanded := none, tag := tag, warned := false,
    stepMs := 0 }

/-- Slot `v` is the lowest-numbered FREE slot (R21). -/
abbrev State.isLowestFree (s : State) (v : SlotNo) : Prop := s.lease? v = none ∧ ∀ u, u < v → s.lease? u ≠ none

/-- The lease in slot `v` has the record `l`; its generation stands. -/
def State.setLease (s : State) (v : SlotNo) (l : Lease) : State :=
  { s with slots := bankModify s.slots v fun x => { x with lease := some l } }

/-- Where an entry of priority `pr` joins the queue `q` at the back of its group (R45). -/
def State.joined (s : State) (q : List SlotNo) (v : SlotNo) (pr : Priority) : List SlotNo :=
  q.takeWhile (fun u => pr ≤ s.priorityOf u) ++ v :: q.dropWhile (fun u => pr ≤ s.priorityOf u)

/-- The channels of `set` have left their lease (R12). -/
def State.channelsLeft (s : State) (set : Word) : Vector Channel 16 :=
  bank fun c => if inSet set c then { s.channel c with state := (s.channel c).leave } else s.channel c

/-- The part after R37 and R38 for the lease `l` in slot `v`: its channels have left, or the waiting lease has left the
queue, and the slot is FREE with its generation advanced. -/
def State.withoutLease (s : State) (v : SlotNo) (l : Lease) : State :=
  { s with
    channels := if l.state = .waiting then s.channels else s.channelsLeft l.set
    slots := bankModify s.slots v fun x => { gen := x.gen + 1, lease := none }
    waitQueue := if l.state = .waiting then s.waitQueue.filter (· ≠ v) else s.waitQueue }

/-- The warning check finds its three conditions for a lease of host `h` with `remaining` steps to run that is not yet
warned (R95). -/
abbrev State.warns (s : State) (h : HostNo) (remaining : Nat) : Prop :=
  (s.host h).lead ≠ 0 ∧ remaining ≤ (s.host h).lead

/-- The part after the hold of the lease `l` in slot `v`, every channel of its set being RESERVED to it (R10, R62, R91, R95):
its record with the term started, its channels DRIVEN at their initial levels or REARM, the GRANTED notice unless this is the
pass of its own REQUEST (`own`, R61), and then the notice of the warning check. -/
def State.heldBy (s : State) (own : Option SlotNo) (v : SlotNo) (l : Lease) : State :=
  let s1 := if own = some v then s else s.notify l.holder (.granted (s.handle v) l.tag)
  let s2 := if s.warns l.holder l.term then s1.notify l.holder (.expiring (s.handle v) l.tag l.term) else s1
  { s2.setLease v
      { l with state := if s.inhibit.inEffect then .suspended else .held, remaining := l.term, waitRemaining := 0,
               commanded := some l.initial, warned := decide (s.warns l.holder l.term), stepMs := 0 } with
    channels := bank fun c => if inSet l.set c then
        { s.channel c with state := if s.inhibit.inEffect then .rearm v else .driven v (levelOf l.initial c) }
      else s.channel c }

/-- Channel `ch` goes to `state`; its settle timer and its fault record follow R5 and R120. -/
def Channel.goes (ch : Channel) (state : ChannelState) : Channel :=
  if ({ ch with state := state } : Channel).output = ch.output then { ch with state := state }
  else { ch with state := state, settle := 0,
                 fault := if ch.fault.state = .suspect then
                   { state := .healthy, count := 0, kind := .none, present := false } else ch.fault }

/-- The fields outside the banks and the wait queue are those of `s`. -/
abbrev State.sameRest (s t : State) : Prop :=
  t.sweep = s.sweep ∧ t.inhibit = s.inhibit ∧ t.resetControl = s.resetControl ∧ t.fb = s.fb ∧
    t.outside = s.outside ∧ t.pending = s.pending

/-- What the arbiter and the lease-end procedure may change of `s` to reach `t`: channel states, slots, the wait queue and the
notice queues; everything else stands. -/
structure State.leasesOnly (s t : State) : Prop where
  config : ∀ c, (t.channel c).config = (s.channel c).config
  settle : ∀ c, (t.channel c).settle = (s.channel c).settle
  fault : ∀ c, (t.channel c).fault = (s.channel c).fault
  quota : ∀ h, (t.host h).quota = (s.host h).quota
  ceiling : ∀ h, (t.host h).ceiling = (s.host h).ceiling
  configRight : ∀ h, (t.host h).config = (s.host h).config
  clearRight : ∀ h, (t.host h).clear = (s.host h).clear
  mask : ∀ h, (t.host h).mask = (s.host h).mask
  lead : ∀ h, (t.host h).lead = (s.host h).lead
  ports : t.ports = s.ports
  rest : s.sameRest t

/-! ### The laws of the device -/

/-- The queue condition of R138: at most 12 records, OVERFLOW nowhere but at the back, and a twelfth record is OVERFLOW. -/
abbrev State.noticesLaw (s : State) : Prop :=
  ∀ h, (s.host h).notices.length ≤ 12 ∧ Notice.overflow ∉ (s.host h).notices.dropLast ∧
    ((s.host h).notices.length = 12 → (s.host h).notices.getLast? = some .overflow)

/-- At least one host holds the CONFIG right (R152). -/
abbrev State.authorityLaw (s : State) : Prop := ∃ h, (s.host h).config = true

/-- While inhibit is in effect no channel is DRIVEN and no lease is HELD (R107). -/
abbrev State.inhibitLaw (s : State) : Prop :=
  s.inhibit.inEffect = true →
    (∀ c, (s.channel c).state.isDriven = false) ∧ ∀ v, ∀ l ∈ s.lease? v, l.state ≠ .held

/-- No host's live-lease count exceeds its quota and no live lease's priority exceeds its holder's ceiling (R29). -/
abbrev State.quotaLaw (s : State) : Prop :=
  (∀ h, s.liveCount h ≤ (s.host h).quota) ∧ ∀ v, ∀ l ∈ s.lease? v, l.priority ≤ (s.host l.holder).ceiling

/-- The wait queue holds exactly the WAITING leases, each once, ordered by non-increasing priority (R44). -/
abbrev State.queueLaw (s : State) : Prop :=
  s.waitQueue.Nodup ∧ (∀ v, v ∈ s.waitQueue ↔ ∃ l ∈ s.lease? v, l.state = .waiting) ∧
    s.waitQueue.Pairwise fun a b => s.priorityOf b ≤ s.priorityOf a

/-- The lease state that the link of a channel in state `x` may have (R2). -/
def ChannelState.allowsLink (x : ChannelState) (l : LeaseState) : Bool :=
  match x with
  | .brk _ _ _ => l == .granting
  | .reserved _ => l == .granting
  | .driven _ _ => l == .held
  | .rearm _ => l == .held || l == .suspended
  | .free => false
  | .lockedOut => false

/-- A link names a live lease whose set contains the channel, in a state that the channel's state allows (R1, R2). -/
abbrev State.linkLaw (s : State) : Prop :=
  ∀ c, ∀ v ∈ (s.channel c).state.link,
    ∃ l ∈ s.lease? v, inSet l.set c = true ∧ (s.channel c).state.allowsLink l.state = true

/-- What the lease state of the lease `l` in slot `v` says of the channels of its set (R28). -/
abbrev State.setLaw (s : State) (v : SlotNo) (l : Lease) : Prop :=
  (l.state = .waiting → ∀ c, (s.channel c).state.link ≠ some v) ∧
  (l.state = .granting →
    (∀ c, inSet l.set c = true → (s.channel c).state.link = some v) ∧
      ∃ c, inSet l.set c = true ∧ (s.channel c).state.isBreak = true) ∧
  (l.state = .held → ∀ c, inSet l.set c = true → (s.channel c).state.link = some v) ∧
  (l.state = .suspended →
    s.inhibit.inEffect = true ∧ ∀ c, inSet l.set c = true → (s.channel c).state = .rearm v)

/-- The law of the lease table and the channel links together (R1, R2, R28, R44). -/
abbrev State.tableLaw (s : State) : Prop :=
  s.queueLaw ∧ s.linkLaw ∧ ∀ v, ∀ l ∈ s.lease? v, s.setLaw v l

/-- The fields of the lease record `l` have the ranges of R26, and the values R27 gives where a field has no meaning. -/
abbrev Lease.recordLaw (l : Lease) : Prop :=
  l.set ≠ 0 ∧ 1 ≤ l.term ∧ l.term ≤ 6000 ∧ l.maxWait ≤ 6000 ∧ l.waitRemaining ≤ l.maxWait ∧ l.remaining ≤ l.term ∧
  subset l.initial l.set = true ∧ l.commanded.all (subset · l.set) = true ∧
  (l.state = .waiting ∨ l.state = .granting → l.remaining = 0 ∧ l.commanded = none ∧ l.warned = false) ∧
  (l.state ≠ .waiting → l.waitRemaining = 0) ∧
  (l.state = .held ∨ l.state = .suspended → 1 ≤ l.remaining ∧ l.commanded ≠ none)

/-- Every live lease's record obeys R26 and R27. -/
abbrev State.recordLaw (s : State) : Prop := ∀ v, ∀ l ∈ s.lease? v, l.recordLaw

/-- The configuration of a channel has the values of R7. -/
abbrev ChannelConfig.inRange (k : ChannelConfig) : Prop :=
  k.breakTime ≤ 250 ∧ 1 ≤ k.settleTime ∧ k.settleTime ≤ 255 ∧ 1 ≤ k.threshold ∧ k.threshold ≤ 15

/-- A channel obeys R1 (its ranges), R7, R116 (what the fault record holds in each fault state) and R125: a LOCKED_OUT
channel is FAULTED, and one FAULTED under LATCH_OFF is LOCKED_OUT. -/
abbrev Channel.law (ch : Channel) : Prop :=
  ch.settle ≤ 255 ∧ ch.state.breakRemaining ≤ 250 ∧ ch.config.inRange ∧
  (ch.fault.state = .healthy → ch.fault.count = 0 ∧ ch.fault.kind = .none ∧ ch.fault.present = false) ∧
  (ch.fault.state = .suspect → 1 ≤ ch.fault.count ∧ ch.fault.count < ch.config.threshold ∧
    ch.fault.kind = (if ch.output then .stuckOff else .stuckOn) ∧ ch.fault.present = false) ∧
  (ch.fault.state = .faulted → 1 ≤ ch.fault.count ∧ ch.fault.count ≤ 15 ∧ ch.fault.kind ≠ .none) ∧
  (ch.state = .lockedOut → ch.fault.state = .faulted) ∧
  (ch.fault.state = .faulted → ch.config.policy = .latchOff → ch.state = .lockedOut)

/-- A channel that is LOCKED_OUT, or FAULTED under the REVOKE policy, is neither owned nor reserved (R123). -/
abbrev State.revokeLaw (s : State) : Prop :=
  ∀ c, (s.channel c).state = .lockedOut ∨
    ((s.channel c).fault.state = .faulted ∧ (s.channel c).config.policy = .revoke) → (s.channel c).state.link = none

/-- Every channel obeys `Channel.law`. -/
abbrev State.channelLaw (s : State) : Prop := ∀ c, (s.channel c).law

/-- No waiting lease is grantable where it stands in the queue: what an arbitration pass leaves (R50). -/
abbrev State.settled (s : State) : Prop :=
  ∀ front w back, s.waitQueue = front ++ w :: back → s.grantable front w = false

end Sys2Proof.Machine
end

