-- ==== Sys2Proof/Certificates/Slice0/Obligations.lean ====
section
/-! DEFINITION. The statements for the provers: what a step, each command and each event of the TB-416 does, and the laws
that every step keeps. OBLIGATIONS.json lists them with the rules they formalise. -/

open Sys2Proof Sys2Proof.Machine

/-! ### The step and the frames -/

/-- A step takes the command at the front of the queue, whole (R174). -/
def Obligations.StepTakesFront : Prop :=
  ∀ (c : Instr) (rest : List Instr) (s : State),
    step { s with pending := c :: rest } = exec c { s with pending := rest }

/-- With no command waiting, a millisecond passes: the model's choice (notes/assumptions/3.md). Every running timer's part
of a step or unit grows, the settle timers' tick comes first (deduced, notes/assumptions/5.md), and the other events due follow,
each once, in an order left open (the model's choice, notes/assumptions/4.md). -/
def Obligations.IdleMillisecond : Prop :=
  ∀ s : State, s.pending = [] → ∃ t, step s = .next t ∧
    (s.resetControl.active = true →
      t = { s with
        resetControl := { s.resetControl with supplyMs := min (s.resetControl.supplyMs + 1) 5 }
        pending := if s.resetControl.line = true ∧ 4 ≤ s.resetControl.supplyMs then [.resetComplete] else [] }) ∧
    (s.resetControl.active = false →
      (∀ c, t.channel c = { s.channel c with state := match (s.channel c).state with
        | .brk link remaining ms => .brk link remaining (min (ms + 1) 2)
        | x => x }) ∧
      (∀ v, t.slot v = { s.slot v with lease := (s.lease? v).map fun l =>
        if l.state = .granting then l else { l with stepMs := min (l.stepMs + 1) 10 } }) ∧
      t.waitQueue = s.waitQueue ∧ t.hosts = s.hosts ∧ t.ports = s.ports ∧ t.sweep = s.sweep ∧
      t.inhibit.inEffect = s.inhibit.inEffect ∧ t.inhibit.line = s.inhibit.line ∧
      t.inhibit.timer = (if s.inhibit.line = s.inhibit.inEffect then
        min (s.inhibit.timer + 1) (if s.inhibit.inEffect = true then 20 else 2) else 0) ∧
      t.resetControl = s.resetControl ∧ t.fb = s.outside.fbNext.headD s.fb ∧
      ∃ due, t.pending = .settleTimerTick :: due ∧ due.Nodup ∧ ∀ i, i ∈ due ↔
        i = .sweepVisit t.fb ∨
        (∃ c link remaining ms, i = .breakCountdown c ∧ (t.channel c).state = .brk link remaining ms ∧ 2 ≤ ms) ∨
        (∃ v l, i = .termStep v ∧ t.lease? v = some l ∧ (l.state = .held ∨ l.state = .suspended) ∧ 10 ≤ l.stepMs) ∨
        (∃ v l, i = .waitStep v ∧ t.lease? v = some l ∧ l.state = .waiting ∧ 10 ≤ l.stepMs) ∨
        (i = .assertion ∧ t.inhibit.inEffect = false ∧ t.inhibit.line = false ∧ 2 ≤ t.inhibit.timer) ∨
        (i = .releaseOfInhibit ∧ t.inhibit.inEffect = true ∧ t.inhibit.line = true ∧ 20 ≤ t.inhibit.timer))

/-- Every command a host can send, with every value of every field, comes back from the bits of its frame (R163 to R168,
R176, R177), whatever filler follows its check byte. -/
def Obligations.FrameRoundTrip : Prop :=
  ∀ (i : Instr) (p : HostNo) (n : Nat) (op : Byte) (payload filler : List Byte) (fb : Word),
    i.frame? = some (p, n) → i.opcodeAndPayload = some (op, payload) → i.fbLines fb = fb →
    payload.length + 2 + filler.length ≤ 64 → n = 8 * (payload.length + 2 + filler.length) →
    rowOfFrame p fb (frameBits op payload filler) = some i

/-- The validation of a frame with at least one clock, its checks in the order of R167, and the check byte that the last of
them compares: the register starts at 0xFF, and each byte covered is combined with it and followed by eight shifts toward the
most significant bit, with 0x07 combined whenever the bit shifted out was 1 (R166). -/
def Obligations.FrameValidation : Prop :=
  let shift (r : Byte) : Byte := if r.getLsbD 7 then (r <<< 1) ^^^ 0x07 else r <<< 1
  (crc8 [] = 0xFF ∧ ∀ (bytes : List Byte) (b : Byte), crc8 (bytes ++ [b]) = shift^[8] (crc8 bytes ^^^ b)) ∧
  (∀ bits : List Bool, bits.length % 8 ≠ 0 → validate bits = .failed .partialByte) ∧
  ∀ (op : Byte) (rest : List Byte),
    validate ((op :: rest).flatMap bitsOfByte) =
      match payloadLength op with
      | none => .failed .unknownOpcode
      | some n =>
        if rest.length < n + 1 then .failed .short
        else if 63 < rest.length then .failed .long
        else if rest[n]? = some (crc8 (op :: rest.take n)) then .valid op (rest.take n)
        else .failed .check

/-- FRAME_ERROR: a frame that fails sets the flag with its kind and keeps the reply (R167, R171); one without a clock
changes nothing but the select line (R164); one that is valid is the command it carries (R168). That the row carries the bits is the
model's choice (notes/assumptions/8.md). -/
def Obligations.FrameErrorRow : Prop :=
  ∀ (p : HostNo) (bits : List Bool) (s : State), s.listens p = true →
    (∀ kind, validate bits = .failed kind →
      exec (.frameError p bits) s = .next (s.modifyPort p (PortRecord.ended bits.length true kind))) ∧
    (validate bits = .ignored →
      exec (.frameError p bits) s = .next (s.modifyPort p fun x => { x with selLow := false, frame := none })) ∧
    (∀ op payload, validate bits = .valid op payload →
      ∃ i, rowOfFrame p s.fb bits = some i ∧ i.frame? = some (p, bits.length) ∧
        exec (.frameError p bits) s = exec i s)

/-- A command whose frame's clock count does not fit it is a frame error, not a command (R167, R177); with no clock at all
its frame is ignored (R164). That a row carries its clock count is the model's choice (notes/assumptions/7.md). -/
def Obligations.MisfitIsFrameError : Prop :=
  ∀ (i : Instr) (p : HostNo) (n : Nat) (s : State),
    i.frame? = some (p, n) → i.wellFormed = false → s.listens p = true →
    exec i s = .next ({ s with fb := i.fbLines s.fb }.modifyPort p fun x =>
      if n = 0 then { x with selLow := false, frame := none }
      else x.ended n true (if n % 8 ≠ 0 then .partialByte else if 512 < n then .long else .short))

/-- While device reset is in progress no row but the two of device reset acts on the part: only the lines move (R159,
R175). Outside it, the end of a frame whose select line has been low since before its completion moves the line alone. -/
def Obligations.NothingTakenInReset : Prop :=
  (∀ (i : Instr) (s : State), s.resetControl.active = true → (∀ cause, i ≠ .deviceReset cause) → i ≠ .resetComplete →
    exec i s = .next { s with
      fb := i.fbLines s.fb
      inhibit := match i with
        | .inhibitLineChange level =>
          if level = s.inhibit.line then s.inhibit else { s.inhibit with line := level, timer := 0 }
        | _ => s.inhibit
      ports := match i.portOf with
        | some p => bankModify s.ports p fun x =>
          { x with selLow := match i with | .frameStart _ => true | _ => false }
        | none => s.ports }) ∧
  ∀ (i : Instr) (p : HostNo) (s : State), i.portOf = some p → i ≠ .frameStart p → s.listens p = false →
    exec i s = .next ({ s with fb := i.fbLines s.fb }.modifyPort p fun x => { x with selLow := false })

/-- NOOP clears FRAME_ERROR, and REPLY_UNREAD when its frame clocked the whole reply out, and changes nothing else of the
part (R172). -/
def Obligations.NoopKeepsReply : Prop :=
  ∀ (p : HostNo) (n : Nat) (s : State), s.listens p = true → clocksFit 0 n = true →
    exec (.noop p n) s = .next (s.modifyPort p fun x => x.ended n false x.errorKind)

/-- The falling edge of a select line fixes the status byte, bit by bit, and the reply record that the frame sends (R169,
R178, R180). From there SDO, high-impedance before, carries the status byte, the record, the check byte over both and then zero
bytes, the most significant bit of each first, one bit more after each falling edge of the clock (R163, R170). A line that is
low already does not fall; in device reset no frame begins and SDO stays high-impedance (R175). -/
def Obligations.FrameStartPresents : Prop :=
  ∀ (p : HostNo) (s : State),
    ((s.port p).selLow = true → exec (.frameStart p) s = .next s) ∧
    ((s.port p).selLow = false → s.resetControl.active = true →
      exec (.frameStart p) s = .next (s.modifyPort p fun x => { x with selLow := true }) ∧
        ∀ k, (s.modifyPort p fun x => { x with selLow := true }).sdo p k = none) ∧
    ((s.port p).selLow = false → s.resetControl.active = false → ∃ (status : Byte) (t : State),
      let reply := (s.port p).reply
      let record := byteOf (reply.fields.length + 2) :: reply.seq :: reply.result.code :: reply.fields
      exec (.frameStart p) s = .next t ∧
      t = (s.modifyPort p fun x => { x with
        selLow := true
        frame := some { status := status, record := record } }) ∧
      (∀ k, s.sdo p k = none) ∧
      (∀ k, t.sdo p k = some
        ((((status :: record) ++ [crc8 (status :: record)])[k / 8]?.getD 0).getLsbD (7 - k % 8))) ∧
      status.getLsbD 7 = decide ((s.host p).notices ≠ []) ∧
      status.getLsbD 6 = decide (∃ n ∈ (s.host p).notices, n ≠ .powerOn) ∧
      status.getLsbD 5 = s.inhibit.inEffect ∧ status.getLsbD 4 = (s.port p).unread ∧
      status.getLsbD 3 = (s.port p).frameError ∧
      status.toNat % 8 = match (s.port p).errorKind with
        | .none => 0 | .partialByte => 1 | .unknownOpcode => 2 | .short => 3 | .long => 4 | .check => 5)

/-! ### REQUEST -/

/-- A REQUEST that fails a check is answered with the first failure, and changes nothing but its port (R30 to R35). -/
def Obligations.RequestRefused : Prop :=
  ∀ (p : HostNo) (n : Nat) (seq : Byte) (set levels : Word) (comp : Byte) (term maxWait tag : Word) (r : Result) (s : State),
    s.listens p = true → clocksFit 12 n = true → s.requestCheck p set comp term maxWait = some r →
    exec (.request p n seq set levels comp term maxWait tag) s = .next (s.replied p seq r [])

/-- An admitted REQUEST takes the lowest-numbered FREE slot with the record of R26, joins the back of its priority group,
and the pass that follows decides the reply from the state of the new lease (R36, R59, R60). -/
def Obligations.RequestAdmitted : Prop :=
  ∀ (p : HostNo) (n : Nat) (seq : Byte) (set levels : Word) (comp : Byte) (term maxWait tag : Word) (v : SlotNo) (m : Lease)
    (s : State),
    s.listens p = true → clocksFit 12 n = true → s.requestCheck p set comp term maxWait = none → s.isLowestFree v →
    let l := requestRecord p set levels comp term maxWait tag
    let u := s.setLease v l
    let w := ({ u with waitQueue := u.joined s.waitQueue v l.priority } : State).pass (some v)
    let handle := [byteOf v.val, (s.slot v).gen]
    w.lease? v = some m →
    exec (.request p n seq set levels comp term maxWait tag) s = .next (
      if m.state = .held ∨ m.state = .suspended then (syncOutputs s w).replied p seq .granted (handle ++ [0])
      else if m.state = .granting then (syncOutputs s w).replied p seq .granting (handle ++ [0])
      else if maxWait ≠ 0 then (syncOutputs s w).replied p seq .queued (handle ++ [byteOf (w.queuePosition v)])
      else (syncOutputs s { w with
          slots := bankModify w.slots v fun x => { gen := x.gen + 1, lease := none }
          waitQueue := w.waitQueue.filter (· ≠ v) }).replied p seq .busy (handle ++ [0]))

/-- The lease of an admitted REQUEST is live at the end of its own pass (R59), so `RequestAdmitted` speaks of every one. -/
def Obligations.RequestOutlivesPass : Prop :=
  ∀ (p : HostNo) (set levels : Word) (comp : Byte) (term maxWait tag : Word) (v : SlotNo) (s : State),
    s.tableLaw → s.lease? v = none →
    let l := requestRecord p set levels comp term maxWait tag
    let u := s.setLease v l
    (({ u with waitQueue := u.joined s.waitQueue v l.priority } : State).pass (some v)).lease? v ≠ none

/-- A REQUEST that no lease competes with, for channels that no fault bars, is granted at once. When all of them are FREE it
is held: they are DRIVEN at their initial levels, or REARM while inhibit is in effect, its term runs, no GRANTED notice is
made, and the warning check comes with the term start (R9, R10, R51, R61, R62, R91, R108). When one is in an unreserved BREAK,
the lease is GRANTING and the channels are reserved to it (R9, R51). -/
def Obligations.RequestGrantedAtOnce : Prop :=
  ∀ (p : HostNo) (n : Nat) (seq : Byte) (set levels : Word) (comp : Byte) (term maxWait tag : Word) (v : SlotNo) (s : State),
    s.listens p = true → clocksFit 12 n = true → s.requestCheck p set comp term maxWait = none → s.isLowestFree v →
    s.waitQueue = [] →
    (∀ c, inSet set c = true → ¬((s.channel c).fault.state = .faulted ∧ (s.channel c).config.policy = .revoke)) →
    let l := requestRecord p set levels comp term maxWait tag
    let warns := s.warns p term.toNat
    ((∀ c, inSet set c = true → (s.channel c).state = .free) →
      ∃ t, exec (.request p n seq set levels comp term maxWait tag) s = .next t ∧
        (∀ c, t.channel c = if inSet set c then
            (s.channel c).goes (if s.inhibit.inEffect then .rearm v else .driven v (levelOf levels c))
          else s.channel c) ∧
        t.slots = (s.setLease v
          { l with state := if s.inhibit.inEffect then .suspended else .held, remaining := term.toNat, waitRemaining := 0,
                   commanded := some (levels &&& set), warned := decide warns }).slots ∧
        t.waitQueue = [] ∧
        t.hosts = (if warns then s.notify p (.expiring (s.handle v) tag term.toNat) else s).hosts ∧
        t.ports = (s.replied p seq .granted [byteOf v.val, (s.slot v).gen, 0]).ports ∧ s.sameRest t) ∧
    ((∀ c, inSet set c = true →
        (s.channel c).state = .free ∨ ∃ remaining ms, (s.channel c).state = .brk none remaining ms) →
      (∃ c, inSet set c = true ∧ (s.channel c).state.isBreak = true) →
      ∃ t, exec (.request p n seq set levels comp term maxWait tag) s = .next t ∧
        (∀ c, t.channel c = if inSet set c then
            { s.channel c with state := match (s.channel c).state with
              | .brk _ remaining ms => .brk (some v) remaining ms
              | _ => .reserved v }
          else s.channel c) ∧
        t.slots = (s.setLease v { l with state := .granting, waitRemaining := 0 }).slots ∧
        t.waitQueue = [] ∧ t.hosts = s.hosts ∧
        t.ports = (s.replied p seq .granting [byteOf v.val, (s.slot v).gen, 0]).ports ∧ s.sameRest t)

/-- A REQUEST that is not grantable where it enters the queue, when nothing else was grantable before it, waits there, or is
answered BUSY and removed when its max wait is 0 (R36, R48, R49, R59, R60). -/
def Obligations.RequestKeptWaiting : Prop :=
  ∀ (p : HostNo) (n : Nat) (seq : Byte) (set levels : Word) (comp : Byte) (term maxWait tag : Word) (v : SlotNo) (s : State),
    s.listens p = true → clocksFit 12 n = true → s.requestCheck p set comp term maxWait = none → s.isLowestFree v →
    s.tableLaw → s.settled →
    let l := requestRecord p set levels comp term maxWait tag
    ((∃ c, inSet set c = true ∧
        ((s.channel c).state = .lockedOut ∨
          ((s.channel c).fault.state = .faulted ∧ (s.channel c).config.policy = .revoke) ∨
          ∃ u m, (s.channel c).state.link = some u ∧ s.lease? u = some m ∧
            (m.preemptible = false ∨ l.priority ≤ m.priority))) ∨
      ∃ u m, u ∈ s.waitQueue ∧ s.lease? u = some m ∧ l.priority ≤ m.priority ∧ overlaps m.set set = true) →
    exec (.request p n seq set levels comp term maxWait tag) s = .next (
      if maxWait = 0 then
        ({ s with slots := bankModify s.slots v fun x => { gen := x.gen + 1, lease := none } } : State).replied p seq .busy
          [byteOf v.val, (s.slot v).gen, 0]
      else
        ({ s.setLease v l with waitQueue := s.joined s.waitQueue v l.priority } : State).replied p seq .queued
          [byteOf v.val, (s.slot v).gen, byteOf ((s.waitQueue.takeWhile fun u => l.priority ≤ s.priorityOf u).length + 1)])

/-! ### Commands on a lease -/

/-- A handle that names no live lease is answered STALE_HANDLE, one of another host's lease NOT_YOURS, and nothing else
changes (R23, R24, R66, R67); REVOKE checks the CONFIG right before the handle, and no holder. -/
def Obligations.HandleChecked : Prop :=
  ∀ (p : HostNo) (n : Nat) (seq slot gen comp : Byte) (a b : Word) (s : State), s.listens p = true →
    ((∀ v l, ¬ s.names slot gen v l) →
      (clocksFit 5 n = true → exec (.renew p n seq slot gen a) s = .next (s.replied p seq .staleHandle [])) ∧
      (clocksFit 7 n = true → exec (.drive p n seq slot gen a b) s = .next (s.replied p seq .staleHandle [])) ∧
      (clocksFit 5 n = true → exec (.shed p n seq slot gen a) s = .next (s.replied p seq .staleHandle [])) ∧
      (clocksFit 4 n = true → exec (.alter p n seq slot gen comp) s = .next (s.replied p seq .staleHandle [])) ∧
      (clocksFit 3 n = true → exec (.release p n seq slot gen) s = .next (s.replied p seq .staleHandle [])) ∧
      (clocksFit 3 n = true → exec (.queryLease p n seq slot gen) s = .next (s.replied p seq .staleHandle [])) ∧
      (clocksFit 3 n = true → (s.host p).config = true →
        exec (.revoke p n seq slot gen) s = .next (s.replied p seq .staleHandle []))) ∧
    (∀ v l, s.names slot gen v l → l.holder ≠ p →
      (clocksFit 5 n = true → exec (.renew p n seq slot gen a) s = .next (s.replied p seq .notYours [])) ∧
      (clocksFit 7 n = true → exec (.drive p n seq slot gen a b) s = .next (s.replied p seq .notYours [])) ∧
      (clocksFit 5 n = true → exec (.shed p n seq slot gen a) s = .next (s.replied p seq .notYours [])) ∧
      (clocksFit 4 n = true → exec (.alter p n seq slot gen comp) s = .next (s.replied p seq .notYours [])) ∧
      (clocksFit 3 n = true → exec (.release p n seq slot gen) s = .next (s.replied p seq .notYours []))) ∧
    (clocksFit 3 n = true → (s.host p).config = false →
      exec (.revoke p n seq slot gen) s = .next (s.replied p seq .noRight []))

/-- The own checks of RENEW, DRIVE, SHED and ALTER on a lease of the requesting host: the result of the first that fails,
and nothing else changes (R67, R68, R72, R77, R81). -/
def Obligations.OwnChecksRefuse : Prop :=
  ∀ (p : HostNo) (n : Nat) (seq slot gen comp : Byte) (a b : Word) (v : SlotNo) (l : Lease) (s : State),
    s.listens p = true → s.names slot gen v l → l.holder = p →
    (clocksFit 5 n = true →
      (6000 < a.toNat → exec (.renew p n seq slot gen a) s = .next (s.replied p seq .badValue [])) ∧
      (a.toNat ≤ 6000 → l.state = .waiting →
        exec (.renew p n seq slot gen a) s = .next (s.replied p seq .wrongState []))) ∧
    (clocksFit 7 n = true →
      (subset a l.set = false → exec (.drive p n seq slot gen a b) s = .next (s.replied p seq .outsideSet [])) ∧
      (subset a l.set = true → l.state = .suspended →
        exec (.drive p n seq slot gen a b) s = .next (s.replied p seq .inhibited []))) ∧
    (clocksFit 5 n = true →
      (subset a l.set = false → exec (.shed p n seq slot gen a) s = .next (s.replied p seq .outsideSet [])) ∧
      (subset a l.set = true → a = 0 ∨ a = l.set →
        exec (.shed p n seq slot gen a) s = .next (s.replied p seq .badSet []))) ∧
    (clocksFit 4 n = true →
      (comp &&& 0x07 ≠ 0 → exec (.alter p n seq slot gen comp) s = .next (s.replied p seq .badValue [])) ∧
      (comp &&& 0x07 = 0 → (s.host p).ceiling < (comp.extractLsb' 5 3).toFin →
        exec (.alter p n seq slot gen comp) s = .next (s.replied p seq .ceiling [])))

/-- RENEW restarts the term of a HELD or SUSPENDED lease, with its warning check, and replaces the term of a GRANTING one;
nothing else changes (R68 to R70, R89, R95). -/
def Obligations.RenewRestartsTerm : Prop :=
  ∀ (p : HostNo) (n : Nat) (seq slot gen : Byte) (newTerm : Word) (v : SlotNo) (l : Lease) (s : State),
    s.listens p = true → clocksFit 5 n = true → s.names slot gen v l → l.holder = p → newTerm.toNat ≤ 6000 →
    let t := if newTerm = 0 then l.term else newTerm.toNat
    (l.state = .held ∨ l.state = .suspended →
      exec (.renew p n seq slot gen newTerm) s = .next
        (((if s.warns p t then s.notify p (.expiring (s.handle v) l.tag t) else s).setLease v
          { l with term := t, remaining := t, warned := decide (s.warns p t), stepMs := 0 }).replied p seq .ok
            (wordBytes t ++ wordBytes t))) ∧
    (l.state = .granting →
      exec (.renew p n seq slot gen newTerm) s = .next
        ((s.setLease v { l with term := t }).replied p seq .ok (wordBytes t ++ [0, 0])))

/-- DRIVE on a HELD lease drives every channel of the mask at its level and records the levels, a re-arm being such a drive
(R11, R73); on a WAITING or GRANTING lease it replaces the initial levels of the mask's channels, and nothing else (R74). It
runs no pass (R72, R75). -/
def Obligations.DriveSetsLevels : Prop :=
  ∀ (p : HostNo) (n : Nat) (seq slot gen : Byte) (mask levels : Word) (v : SlotNo) (l : Lease) (s : State),
    s.listens p = true → clocksFit 7 n = true → s.tableLaw → s.names slot gen v l → l.holder = p →
    subset mask l.set = true →
    (∀ old, l.state = .held → l.commanded = some old →
      ∃ t, exec (.drive p n seq slot gen mask levels) s = .next t ∧
        (∀ c, t.channel c =
          if inSet mask c then (s.channel c).goes (.driven v (levelOf levels c)) else s.channel c) ∧
        t.slots = (s.setLease v { l with commanded := some ((old &&& ~~~mask) ||| (levels &&& mask)) }).slots ∧
        t.waitQueue = s.waitQueue ∧ t.hosts = s.hosts ∧
        t.ports = (s.replied p seq .ok (3 :: bytesOfWord
          (setOf fun c => (s.channel c).state == .rearm v && !inSet mask c))).ports ∧
        s.sameRest t) ∧
    (l.state = .waiting ∨ l.state = .granting →
      exec (.drive p n seq slot gen mask levels) s = .next
        ((s.setLease v { l with initial := (l.initial &&& ~~~mask) ||| (levels &&& mask) }).replied p seq .ok
          [if l.state = .waiting then 1 else 2, 0, 0]))

/-- SHED takes the shed channels out of the lease and its record, holds a GRANTING lease left with no channel in BREAK, and
runs a pass (R77 to R79). -/
def Obligations.ShedShrinksLease : Prop :=
  ∀ (p : HostNo) (n : Nat) (seq slot gen : Byte) (shed : Word) (v : SlotNo) (l : Lease) (s : State),
    s.listens p = true → clocksFit 5 n = true → s.names slot gen v l → l.holder = p →
    subset shed l.set = true → shed ≠ 0 → shed ≠ l.set →
    let rest := l.set &&& ~~~shed
    let l' : Lease := { l with set := rest, initial := l.initial &&& ~~~shed, commanded := l.commanded.map (· &&& ~~~shed) }
    let s1 : State :=
      { s.setLease v l' with channels := if l.state = .waiting then s.channels else s.channelsLeft shed }
    let s2 := if l.state = .granting ∧ ∀ c, inSet rest c = true → (s.channel c).state.isBreak = false
      then s1.holdLease none v else s1
    let w := s2.pass none
    exec (.shed p n seq slot gen shed) s = .next
      ((syncOutputs s w).replied p seq .ok (bytesOfWord rest ++ [leaseStateCode ((w.lease? v).map Lease.state)]))

/-- ALTER writes the three competition fields in every lease state, moves a WAITING lease whose priority changes to the
back of its new group, and runs a pass (R45, R81, R82). -/
def Obligations.AlterWritesCompetition : Prop :=
  ∀ (p : HostNo) (n : Nat) (seq slot gen comp : Byte) (v : SlotNo) (l : Lease) (s : State),
    s.listens p = true → clocksFit 4 n = true → s.names slot gen v l → l.holder = p → comp &&& 0x07 = 0 →
    let pr : Priority := (comp.extractLsb' 5 3).toFin
    pr ≤ (s.host p).ceiling →
    let l' : Lease := { l with priority := pr, preemptible := comp.getLsbD 4, requeue := comp.getLsbD 3 }
    let w := ({ s.setLease v l' with
      waitQueue := if l.state = .waiting ∧ l.priority ≠ pr then s.joined (s.waitQueue.filter (· ≠ v)) v pr
        else s.waitQueue } : State).pass none
    exec (.alter p n seq slot gen comp) s = .next
      ((syncOutputs s w).replied p seq .ok
        [leaseStateCode ((w.lease? v).map Lease.state), byteOf (w.queuePosition v)])

/-- RELEASE ends the lease in every lease state, without a notice, and runs a pass (R37, R38, R39, R84). -/
def Obligations.ReleaseEndsLease : Prop :=
  ∀ (p : HostNo) (n : Nat) (seq slot gen : Byte) (v : SlotNo) (l : Lease) (s : State),
    s.listens p = true → clocksFit 3 n = true → s.names slot gen v l → l.holder = p →
    exec (.release p n seq slot gen) s = .next
      ((syncOutputs s ((s.withoutLease v l).pass none)).replied p seq .ok [])

/-- RELEASE_ALL ends every live lease of the requesting host, without a notice, runs one pass after the last, and reports
how many it ended (R37, R38, R39, R86). -/
def Obligations.ReleaseAllEndsEveryLease : Prop :=
  ∀ (p : HostNo) (n : Nat) (seq : Byte) (s : State), s.listens p = true → clocksFit 1 n = true →
    let u : State := { s with
      channels := bank fun c =>
        if ∃ v, ∃ l ∈ s.lease? v, l.holder = p ∧ l.state ≠ .waiting ∧ inSet l.set c = true then
          { s.channel c with state := (s.channel c).leave } else s.channel c
      slots := bank fun v =>
        if ∃ l ∈ s.lease? v, l.holder = p then { gen := (s.slot v).gen + 1, lease := none } else s.slot v
      waitQueue := s.waitQueue.filter fun v =>
        decide (¬ ∃ l ∈ s.lease? v, l.holder = p ∧ l.state = .waiting) }
    exec (.releaseAll p n seq) s = .next
      ((syncOutputs s (u.pass none)).replied p seq .ok [byteOf (s.liveCount p)])

/-- REVOKE by a host with the CONFIG right ends any host's lease, with a REVOKED notice, cause ADMIN, ahead of its pass, and
reports the holder (R37, R38, R39, R87). -/
def Obligations.RevokeEndsLease : Prop :=
  ∀ (p : HostNo) (n : Nat) (seq slot gen : Byte) (v : SlotNo) (l : Lease) (s : State),
    s.listens p = true → clocksFit 3 n = true → (s.host p).config = true → s.names slot gen v l →
    exec (.revoke p n seq slot gen) s = .next
      ((syncOutputs s (((s.withoutLease v l).notify l.holder (.revokedAdmin (s.handle v) l.tag p)).pass none)).replied
        p seq .ok [byteOf l.holder.val])

/-! ### Queries -/

/-- QUERY_LEASE reports the whole record of a live lease of any host, in the layout of R179, and LIST_LEASES the requesting
host's leases from a start slot with the summary of all of them; neither changes anything else (R40, R41, R179). -/
def Obligations.LeaseQueriesReport : Prop :=
  (∀ (p : HostNo) (n : Nat) (seq slot gen : Byte) (v : SlotNo) (l : Lease) (s : State),
    s.listens p = true → clocksFit 3 n = true → s.names slot gen v l →
    exec (.queryLease p n seq slot gen) s = .next (s.replied p seq .ok
      ([byteOf v.val, gen, byteOf l.holder.val, leaseStateCode (some l.state)] ++ bytesOfWord l.set ++
        [byteOf (32 * l.priority.val + (if l.preemptible then 16 else 0) + (if l.requeue then 8 else 0))] ++
        wordBytes l.term ++ wordBytes l.remaining ++ wordBytes l.maxWait ++ wordBytes l.waitRemaining ++
        bytesOfWord l.initial ++ bytesOfWord (l.commanded.getD 0) ++
        bytesOfWord (setOf fun c => (s.channel c).state == .rearm v) ++ bytesOfWord l.tag ++
        [byteOf ((if l.warned then 1 else 0) + (if l.commanded = none then 0 else 2)), byteOf (s.queuePosition v)]))) ∧
  ∀ (p : HostNo) (n : Nat) (seq start : Byte) (s : State), s.listens p = true → clocksFit 2 n = true →
    (24 ≤ start.toNat → exec (.listLeases p n seq start) s = .next (s.replied p seq .badValue [])) ∧
    (start.toNat < 24 →
      let listed := (List.finRange 24).filter fun v =>
        decide (start.toNat ≤ v.val ∧ ∃ l ∈ s.lease? v, l.holder = p)
      let ours (c : ChannelNo) : Prop := ∃ v ∈ (s.channel c).state.link, ∃ l ∈ s.lease? v, l.holder = p
      let held (c : ChannelNo) : Bool := (s.channel c).state.isDriven || (s.channel c).state.isRearm
      exec (.listLeases p n seq start) s = .next (s.replied p seq .ok
        ([byteOf (min 16 listed.length), if 16 < listed.length then 1 else 0, byteOf (s.liveCount p)] ++
          bytesOfWord (setOf fun c => decide (ours c) && held c) ++
          bytesOfWord (setOf fun c => decide (ours c) && !held c) ++
          bytesOfWord (setOf fun c => decide (ours c) && (s.channel c).state.isRearm) ++
          (listed.take 16).flatMap fun v =>
            [byteOf v.val, (s.slot v).gen, leaseStateCode ((s.lease? v).map Lease.state)])))

/-- QUERY_CHANNEL reports the whole state of a channel in the layout of R179, with the FB level as it stands when the command
is taken, and changes nothing else (R6, R18, R177, R179). -/
def Obligations.QueryChannelReports : Prop :=
  ∀ (p : HostNo) (n : Nat) (seq channel : Byte) (fb : Word) (s : State), s.listens p = true → clocksFit 2 n = true →
    (16 ≤ channel.toNat →
      exec (.queryChannel p n seq channel fb) s = .next (({ s with fb := fb } : State).replied p seq .badValue [])) ∧
    ∀ c : ChannelNo, channel.toNat = c.val →
      let ch := s.channel c
      let flag (b : Bool) (weight : Nat) : Nat := if b then weight else 0
      exec (.queryChannel p n seq channel fb) s = .next (({ s with fb := fb } : State).replied p seq .ok
        ([channel, ch.state.code] ++
          (match ch.state.link with
            | some v => [byteOf v.val, (s.slot v).gen]
            | none => [0, 0]) ++
          [byteOf (flag ch.state.link.isSome 1 + flag ch.state.isDriven 2 + flag (ch.state.isDriven && ch.output) 4 +
              flag ch.output 8 + flag (levelOf fb c) 16 + flag ch.fault.present 32),
            byteOf ch.state.breakRemaining, byteOf ch.settle,
            byteOf (flag ch.config.fallback 128 + flag ch.config.feedback 64 + flag ch.config.leasable 32 +
              match ch.config.policy with
              | .report => 0
              | .revoke => 8
              | .latchOff => 16),
            byteOf ch.config.breakTime, byteOf ch.config.settleTime, byteOf ch.config.threshold,
            ch.fault.state.code, byteOf ch.fault.count, ch.fault.kind.code]))

/-- QUERY_STATUS reports the part as a whole and READ_HOST one host's standing; neither changes anything else (R155, R162,
R179). -/
def Obligations.StatusQueriesReport : Prop :=
  (∀ (p : HostNo) (n : Nat) (seq : Byte) (s : State), s.listens p = true → clocksFit 1 n = true →
    exec (.queryStatus p n seq) s = .next (s.replied p seq .ok
      ([0xB4, 0x01, if s.inhibit.inEffect then 1 else 0,
          byteOf (24 - (List.finRange 24).countP fun v => (s.lease? v).isSome), byteOf s.waitQueue.length] ++
        bytesOfWord (setOf fun c => (s.channel c).state.isDriven) ++
        bytesOfWord (setOf fun c => (s.channel c).fault.state == .faulted) ++
        bytesOfWord (setOf fun c => (s.channel c).state == .lockedOut) ++ [byteOf (s.host p).notices.length]))) ∧
  ∀ (p : HostNo) (n : Nat) (seq host : Byte) (s : State), s.listens p = true → clocksFit 2 n = true →
    (4 ≤ host.toNat → exec (.readHost p n seq host) s = .next (s.replied p seq .badValue [])) ∧
    ∀ h : HostNo, host.toNat = h.val → exec (.readHost p n seq host) s = .next (s.replied p seq .ok
      ([host, byteOf (s.host h).quota, byteOf (s.host h).ceiling.val,
          byteOf ((if (s.host h).config then 1 else 0) + (if (s.host h).clear then 2 else 0)), byteOf (s.liveCount h),
          byteOf (s.host h).lead] ++ bytesOfWord (s.host h).mask))

/-! ### Notices, authority, configuration -/

/-- READ_NOTICE removes the requesting host's oldest record and returns it with the count left, or returns thirteen zero
bytes and a zero count of an empty queue (R140, R181); SET_NOTICES writes mask and lead whole, or refuses a mask with a
reserved bit (R142). -/
def Obligations.NoticeCommands : Prop :=
  (∀ (p : HostNo) (n : Nat) (seq : Byte) (s : State), s.listens p = true → clocksFit 1 n = true →
    ((s.host p).notices = [] →
      exec (.readNotice p n seq) s = .next (s.replied p seq .ok (List.replicate 14 0))) ∧
    ∀ record rest, (s.host p).notices = record :: rest →
      exec (.readNotice p n seq) s = .next
        ((s.modifyHost p fun r => { r with notices := rest }).replied p seq .ok (record.bytes ++ [byteOf rest.length]))) ∧
  ∀ (p : HostNo) (n : Nat) (seq : Byte) (mask : Word) (lead : Byte) (s : State), s.listens p = true → clocksFit 4 n = true →
    (mask &&& 0xC00F ≠ 0 → exec (.setNotices p n seq mask lead) s = .next (s.replied p seq .badValue [])) ∧
    (mask &&& 0xC00F = 0 → exec (.setNotices p n seq mask lead) s = .next
      ((s.modifyHost p fun r => { r with mask := mask, lead := lead.toNat }).replied p seq .ok
        (bytesOfWord mask ++ [lead])))

/-- SET_HOST: the first check of R151 that fails gives the result; otherwise quota, ceiling and rights of the target host are
written whole, and nothing else changes (R151 to R153). -/
def Obligations.SetHostWritesAuthority : Prop :=
  ∀ (p : HostNo) (n : Nat) (seq host quota ceiling rights : Byte) (s : State), s.listens p = true → clocksFit 5 n = true →
    ((s.host p).config = false →
      exec (.setHost p n seq host quota ceiling rights) s = .next (s.replied p seq .noRight [])) ∧
    ((s.host p).config = true →
      (4 ≤ host.toNat ∨ 24 < quota.toNat ∨ 8 ≤ ceiling.toNat ∨ 4 ≤ rights.toNat →
        exec (.setHost p n seq host quota ceiling rights) s = .next (s.replied p seq .badValue [])) ∧
      ∀ (h : HostNo) (c : Priority), host.toNat = h.val → quota.toNat ≤ 24 → ceiling.toNat = c.val → rights.toNat < 4 →
        exec (.setHost p n seq host quota ceiling rights) s = .next (
          if quota.toNat < s.liveCount h ∨ ∃ v, ∃ l ∈ s.lease? v, l.holder = h ∧ c < l.priority then
            s.replied p seq .busy []
          else if rights.getLsbD 0 = false ∧ ∀ g, g ≠ h → (s.host g).config = false then
            s.replied p seq .lastAuthority []
          else
            (s.modifyHost h fun r =>
              { r with quota := quota.toNat, ceiling := c, config := rights.getLsbD 0,
                       clear := rights.getLsbD 1 }).replied p seq .ok
              [host, quota, ceiling, rights]))

/-- SET_CHANNEL: the checks of R156 in order; otherwise the configuration is written whole, the channel and its fault record
follow R8 and R130, and a pass runs when the write has made the channel grantable (R157). -/
def Obligations.SetChannelWritesConfiguration : Prop :=
  ∀ (p : HostNo) (n : Nat) (seq channel flags breakTime settleTime threshold : Byte) (s : State),
    s.listens p = true → clocksFit 6 n = true →
    let run := exec (.setChannel p n seq channel flags breakTime settleTime threshold) s
    let bad := 16 ≤ channel.toNat ∨ 250 < breakTime.toNat ∨ settleTime = 0 ∨ threshold = 0 ∨ 15 < threshold.toNat ∨
      flags.extractLsb' 3 2 = 3 ∨ flags &&& 0x07 ≠ 0
    ((s.host p).config = false → run = .next (s.replied p seq .noRight [])) ∧
    ((s.host p).config = true → bad → run = .next (s.replied p seq .badValue [])) ∧
    ∀ (c : ChannelNo) (policy : FaultPolicy), (s.host p).config = true → ¬ bad → channel.toNat = c.val →
      flags.extractLsb' 3 2 = policyCode policy →
      let ch := s.channel c
      let k : ChannelConfig :=
        { fallback := flags.getLsbD 7, breakTime := breakTime.toNat, settleTime := settleTime.toNat,
          threshold := threshold.toNat, policy := policy, feedback := flags.getLsbD 6, leasable := flags.getLsbD 5 }
      let ch' : Channel := { ch with
        config := k
        fault := if k.feedback = false ∨ ch.fault.state = .suspect then
          { state := .healthy, count := 0, kind := .none, present := false } else ch.fault
        state := if k.feedback = false then if ch.state = .lockedOut then .free else ch.state
          else if ch.fault.state = .faulted ∧ policy = .latchOff then .lockedOut else ch.state }
      let s1 := s.modifyChannel c fun _ => ch'
      let w := if ch.available = false ∧ ch'.available = true then s1.pass none else s1
      run = .next (
        if ch.state ≠ .free ∧ ch.state ≠ .lockedOut then s.replied p seq .busy []
        else if k.leasable = false ∧ ∃ v, ∃ l ∈ s.lease? v, l.state = .waiting ∧ inSet l.set c = true then
          s.replied p seq .busy []
        else (syncOutputs s w).replied p seq .ok
          [channel, (w.channel c).state.code, flags, breakTime, settleTime, threshold])

/-- CLEAR_FAULT: the checks of R128 in order; otherwise the fault record is HEALTHY, a LOCKED_OUT channel FREE, and a pass
runs (R129). -/
def Obligations.ClearFaultFreesChannel : Prop :=
  ∀ (p : HostNo) (n : Nat) (seq channel : Byte) (s : State), s.listens p = true → clocksFit 2 n = true →
    (16 ≤ channel.toNat → exec (.clearFault p n seq channel) s = .next (s.replied p seq .badValue [])) ∧
    ∀ c : ChannelNo, channel.toNat = c.val →
      let ch := s.channel c
      let u := s.modifyChannel c fun ch => { ch with
        fault := { state := .healthy, count := 0, kind := .none, present := false }
        state := if ch.state = .lockedOut then .free else ch.state }
      exec (.clearFault p n seq channel) s = .next (
        if (s.host p).clear = false ∧ ¬ ∃ v ∈ ch.state.link, ∃ l ∈ s.lease? v, l.holder = p then
          s.replied p seq .noRight []
        else if ch.fault.state ≠ .faulted then s.replied p seq .notFaulted []
        else if ch.fault.present = true then s.replied p seq .stillPresent []
        else (syncOutputs s (u.pass none)).replied p seq .ok [])

/-- TABLE_RESET needs the CONFIG right, and frees the whole table: channels leave their leases, generations of the freed
slots advance, the queue empties, and every notice queue holds one TABLE_RESET (R20, R43, R145, R161). Where a channel's output
level changes, its settle timer restarts and a SUSPECT fault record returns to HEALTHY (R5, R20, R120), though R43, R132 and R161
say that the fault records stand: deduced (notes/assumptions/23.md). -/
def Obligations.TableResetFreesTable : Prop :=
  ∀ (p : HostNo) (n : Nat) (seq : Byte) (s : State), s.listens p = true → clocksFit 1 n = true →
    ((s.host p).config = false → exec (.tableReset p n seq) s = .next (s.replied p seq .noRight [])) ∧
    ((s.host p).config = true → ∃ t, exec (.tableReset p n seq) s = .next t ∧
      (∀ c, t.channel c = (s.channel c).goes (match (s.channel c).state with
        | .driven _ _ =>
          if (s.channel c).config.breakTime = 0 then .free else .brk none (s.channel c).config.breakTime 0
        | .rearm _ => .free
        | .reserved _ => .free
        | .brk _ remaining ms => .brk none remaining ms
        | .free => .free
        | .lockedOut => .lockedOut)) ∧
      (∀ v, t.slot v = { gen := if s.lease? v = none then (s.slot v).gen else (s.slot v).gen + 1, lease := none }) ∧
      t.waitQueue = [] ∧ (∀ h, t.host h = { s.host h with notices := [.tableReset] }) ∧
      t.ports = (s.replied p seq .ok
        [byteOf ((List.finRange 24).countP fun v => (s.lease? v).isSome)]).ports ∧
      s.sameRest t)

/-! ### Timed events -/

/-- A completed step of a running timer takes one from its count: of the term, with the warning check, while more than one
step is left (R89, R92, R95), and of the wait (R97). A completed unit of a break does the same to break remaining (R14). -/
def Obligations.TimersCountDown : Prop :=
  ∀ s : State, s.resetControl.active = false →
    (∀ (v : SlotNo) (l : Lease), s.lease? v = some l → l.state = .held ∨ l.state = .suspended → 10 ≤ l.stepMs →
      2 ≤ l.remaining →
      let warns := s.warns l.holder (l.remaining - 1) ∧ l.warned = false
      exec (.termStep v) s = .next
        ((if warns then s.notify l.holder (.expiring (s.handle v) l.tag (l.remaining - 1)) else s).setLease v
          { l with remaining := l.remaining - 1, warned := l.warned || decide warns, stepMs := 0 })) ∧
    (∀ (v : SlotNo) (l : Lease), s.lease? v = some l → l.state = .waiting → 10 ≤ l.stepMs → 2 ≤ l.waitRemaining →
      exec (.waitStep v) s = .next (s.setLease v { l with waitRemaining := l.waitRemaining - 1, stepMs := 0 })) ∧
    ∀ (c : ChannelNo) (link : Option SlotNo) (remaining ms : Nat), (s.channel c).state = .brk link remaining ms →
      2 ≤ ms → 2 ≤ remaining →
      exec (.breakCountdown c) s = .next
        (s.modifyChannel c fun ch => { ch with state := .brk link (remaining - 1) 0 })

/-- The step that brings remaining to 0, met as TERM_STEP or as EXPIRY, ends the lease with an EXPIRED notice ahead of its
pass (R37 to R39, R93); the step that brings wait remaining to 0, met as WAIT_STEP or as WAIT_TIMEOUT, ends the waiting lease
with a WAIT_TIMEOUT notice ahead of its pass (R37 to R39, R98). That both rows of a pair do so is deduced
(notes/assumptions/13.md). -/
def Obligations.LastStepEndsLease : Prop :=
  ∀ (v : SlotNo) (l : Lease) (i : Instr) (s : State), s.resetControl.active = false → s.lease? v = some l →
    10 ≤ l.stepMs →
    (i = .termStep v ∨ i = .expiry v → l.state = .held ∨ l.state = .suspended → l.remaining = 1 →
      exec i s = .next
        (syncOutputs s (((s.withoutLease v l).notify l.holder (.expired (s.handle v) l.tag)).pass none))) ∧
    (i = .waitStep v ∨ i = .waitTimeout v → l.state = .waiting → l.waitRemaining = 1 →
      exec i s = .next
        (syncOutputs s (((s.withoutLease v l).notify l.holder (.waitTimeout (s.handle v) l.tag)).pass none)))

/-- The last unit of a reserved break, met as BREAK_COUNTDOWN or as BREAK_END_RESERVED, makes the channel RESERVED to the
same lease. A lease with another channel in BREAK stays GRANTING; otherwise the whole set is held in the same event, with the
GRANTED notice and then the warning check, and no pass runs (R10, R15, R62, R63, R91). That both rows do so is
deduced (notes/assumptions/13.md). -/
def Obligations.ReservedBreakEnds : Prop :=
  ∀ (c : ChannelNo) (v : SlotNo) (ms : Nat) (l : Lease) (i : Instr) (s : State), s.resetControl.active = false →
    i = .breakCountdown c ∨ i = .breakEndReserved c →
    s.tableLaw → (s.channel c).state = .brk (some v) 1 ms → 2 ≤ ms → s.lease? v = some l →
    ((∃ d, d ≠ c ∧ inSet l.set d = true ∧ (s.channel d).state.isBreak = true) →
      exec i s = .next (s.modifyChannel c fun ch => { ch with state := .reserved v })) ∧
    ((∀ d, d ≠ c → inSet l.set d = true → (s.channel d).state.isBreak = false) →
      let warns := s.warns l.holder l.term
      let s1 := s.notify l.holder (.granted (s.handle v) l.tag)
      let s2 := if warns then s1.notify l.holder (.expiring (s.handle v) l.tag l.term) else s1
      ∃ t, exec i s = .next t ∧
        (∀ d, t.channel d =
          if inSet l.set d then (s.channel d).goes
            (if s.inhibit.inEffect then .rearm v else .driven v (levelOf l.initial d))
          else s.channel d) ∧
        t.slots = (s.setLease v
          { l with state := if s.inhibit.inEffect then .suspended else .held, remaining := l.term, waitRemaining := 0,
                   commanded := some l.initial, warned := decide warns, stepMs := 0 }).slots ∧
        t.waitQueue = s.waitQueue ∧ t.hosts = s2.hosts ∧ t.ports = s.ports ∧ s.sameRest t)

/-- The last unit of an unreserved break, met as BREAK_COUNTDOWN or as BREAK_END_UNRESERVED, makes the channel FREE and runs
a pass (R16). That both rows do so is deduced (notes/assumptions/13.md). -/
def Obligations.UnreservedBreakEnds : Prop :=
  ∀ (c : ChannelNo) (ms : Nat) (i : Instr) (s : State), s.resetControl.active = false →
    i = .breakCountdown c ∨ i = .breakEndUnreserved c → (s.channel c).state = .brk none 1 ms → 2 ≤ ms →
    exec i s = .next (syncOutputs s ((s.modifyChannel c fun ch => { ch with state := .free }).pass none))

/-- A timed row whose timer does not run, whose present step or unit is not complete, or whose outcome is not the one it
names is not taken: the model's choice (notes/assumptions/2.md), with what R25 and R100 give for a timer restarted or a lease
ended first. -/
def Obligations.TimedRowsNotDue : Prop :=
  ∀ (s : State) (v : SlotNo) (c : ChannelNo),
    ((∀ l, s.lease? v = some l → l.state = .waiting ∨ l.state = .granting ∨ l.stepMs < 10) →
      exec (.termStep v) s = .next s ∧ exec (.expiry v) s = .next s) ∧
    ((∀ l, s.lease? v = some l → 1 < l.remaining) → exec (.expiry v) s = .next s) ∧
    ((∀ l, s.lease? v = some l → l.state ≠ .waiting ∨ l.stepMs < 10) →
      exec (.waitStep v) s = .next s ∧ exec (.waitTimeout v) s = .next s) ∧
    ((∀ l, s.lease? v = some l → 1 < l.waitRemaining) → exec (.waitTimeout v) s = .next s) ∧
    ((∀ link remaining ms, (s.channel c).state = .brk link remaining ms → ms < 2) →
      exec (.breakCountdown c) s = .next s ∧ exec (.breakEndReserved c) s = .next s ∧
        exec (.breakEndUnreserved c) s = .next s) ∧
    ((∀ link remaining ms, (s.channel c).state = .brk link remaining ms → 1 < remaining) →
      exec (.breakEndReserved c) s = .next s ∧ exec (.breakEndUnreserved c) s = .next s) ∧
    ((s.channel c).state.link = none → exec (.breakEndReserved c) s = .next s) ∧
    ((s.channel c).state.link ≠ none → exec (.breakEndUnreserved c) s = .next s)

/-- Every settle timer advances by one millisecond and stops at 255; nothing else changes (R5). -/
def Obligations.SettleTimersTick : Prop :=
  ∀ s : State, s.resetControl.active = false →
    exec .settleTimerTick s = .next { s with
      channels := bank fun c => { s.channel c with settle := min ((s.channel c).settle + 1) 255 } }

/-! ### Supervision -/

/-- A visit moves the sweep on. Without feedback, or before the settle time, it changes nothing else (R117, R118); on a
FAULTED channel the comparison sets or clears the present flag alone (R126). -/
def Obligations.VisitWithoutCount : Prop :=
  ∀ (fb : Word) (s : State), s.resetControl.active = false →
    let c := s.sweep
    let ch := s.channel c
    let s1 : State := { s with fb := fb, sweep := c + 1 }
    (ch.config.feedback = false ∨ ch.settle < ch.config.settleTime → exec (.sweepVisit fb) s = .next s1) ∧
    (ch.config.feedback = true → ch.config.settleTime ≤ ch.settle → ch.fault.state = .faulted →
      exec (.sweepVisit fb) s = .next (s1.modifyChannel c fun ch =>
        { ch with fault := { ch.fault with present := levelOf fb c != ch.output } }))

/-- A comparison on a HEALTHY or SUSPECT channel that does not reach the threshold: a disagreement counts and records its
kind, an agreement leaves the channel HEALTHY (R118, R119). -/
def Obligations.VisitCounts : Prop :=
  ∀ (fb : Word) (s : State), s.resetControl.active = false →
    let c := s.sweep
    let ch := s.channel c
    let s1 : State := { s with fb := fb, sweep := c + 1 }
    let n := if ch.fault.state = .healthy then 1 else ch.fault.count + 1
    ch.config.feedback = true → ch.config.settleTime ≤ ch.settle → ch.fault.state ≠ .faulted →
    (levelOf fb c ≠ ch.output → n < ch.config.threshold →
      exec (.sweepVisit fb) s = .next (s1.modifyChannel c fun ch => { ch with fault :=
        { state := .suspect, count := n, kind := if ch.output then .stuckOff else .stuckOn, present := false } })) ∧
    (levelOf fb c = ch.output →
      exec (.sweepVisit fb) s = .next (if ch.fault.state = .healthy then s1 else s1.modifyChannel c fun ch =>
        { ch with fault := { state := .healthy, count := 0, kind := .none, present := false } }))

/-- The disagreement that reaches the threshold confirms the fault: FAULTED, present, with the CHANNEL_FAULT notice to the
holder of the linked lease or to every subscribed host (R121), and then the policy: nothing more under REPORT (R122), the
linked lease revoked under REVOKE (R123), the channel LOCKED_OUT and the linked lease revoked under LATCH_OFF (R124). -/
def Obligations.VisitConfirms : Prop :=
  ∀ (fb : Word) (s : State), s.resetControl.active = false → s.tableLaw →
    let c := s.sweep
    let ch := s.channel c
    let n := if ch.fault.state = .healthy then 1 else ch.fault.count + 1
    let kind : FaultKind := if ch.output then .stuckOff else .stuckOn
    let fault : FaultRecord := { state := .faulted, count := n, kind := kind, present := true }
    let s1 := ({ s with fb := fb, sweep := c + 1 } : State).modifyChannel c fun ch => { ch with fault := fault }
    ch.config.feedback = true → ch.config.settleTime ≤ ch.settle → ch.fault.state ≠ .faulted →
    levelOf fb c ≠ ch.output → ch.config.threshold ≤ n →
    (ch.state.link = none →
      let s2 := s1.mapHosts (HostRecord.receive (.channelFault c kind none))
      exec (.sweepVisit fb) s = .next (if ch.config.policy = .latchOff then
          s2.modifyChannel c fun _ => { ch with fault := fault }.goes .lockedOut else s2)) ∧
    ∀ (v : SlotNo) (l : Lease), ch.state.link = some v → s.lease? v = some l →
      let s2 := s1.notify l.holder (.channelFault c kind (some (s.handle v, l.tag)))
      let s3 := if ch.config.policy = .latchOff then s2.modifyChannel c fun ch => { ch with state := .lockedOut } else s2
      exec (.sweepVisit fb) s = .next (if ch.config.policy = .report then s2 else
        syncOutputs s (((s3.withoutLease v l).notify l.holder
          (.revokedFault (s.handle v) l.tag c kind)).pass none))

/-! ### Inhibit and reset -/

/-- A change of level of the INHIBIT line leaves the qualification timer at 0, and nothing else changes (R106). -/
def Obligations.InhibitLineMoves : Prop :=
  ∀ (level : Level) (s : State),
    exec (.inhibitLineChange level) s = .next { s with inhibit :=
      { inEffect := s.inhibit.inEffect, line := level,
        timer := if level = s.inhibit.line then s.inhibit.timer else 0 } }

/-- Inhibit comes into effect when the line has stood low for 2 ms: every DRIVEN channel becomes REARM under the same owner,
every HELD lease SUSPENDED, and INHIBIT_ON goes to every subscribed host (R106, R107). That the row met before that does
nothing is the model's choice (notes/assumptions/14.md). -/
def Obligations.AssertionSuspends : Prop :=
  ∀ s : State, s.resetControl.active = false →
    (s.inhibit.inEffect = true ∨ s.inhibit.line = true ∨ s.inhibit.timer < 2 → exec .assertion s = .next s) ∧
    (s.inhibit.inEffect = false → s.inhibit.line = false → 2 ≤ s.inhibit.timer → ∃ t, exec .assertion s = .next t ∧
      t.inhibit = { inEffect := true, timer := 0, line := false } ∧
      (∀ c, t.channel c = (s.channel c).goes (match (s.channel c).state with
        | .driven v _ => .rearm v
        | x => x)) ∧
      (∀ v, t.slot v = { s.slot v with lease := (s.lease? v).map fun l =>
        if l.state = .held then { l with state := .suspended } else l }) ∧
      t.hosts = (s.notifyAll .inhibitOn).hosts ∧ t.waitQueue = s.waitQueue ∧ t.ports = s.ports ∧
      t.sweep = s.sweep ∧ t.resetControl = s.resetControl ∧ t.fb = s.fb ∧ t.outside = s.outside ∧
      t.pending = s.pending)

/-- Inhibit is released when the line has stood high for 20 ms: every SUSPENDED lease becomes HELD, its channels stay as they
are, INHIBIT_OFF goes to every subscribed host and no pass runs (R106, R110). That the row met before that does nothing is the
model's choice (notes/assumptions/14.md). -/
def Obligations.ReleaseResumes : Prop :=
  ∀ s : State, s.resetControl.active = false →
    (s.inhibit.inEffect = false ∨ s.inhibit.line = false ∨ s.inhibit.timer < 20 → exec .releaseOfInhibit s = .next s) ∧
    (s.inhibit.inEffect = true → s.inhibit.line = true → 20 ≤ s.inhibit.timer →
      exec .releaseOfInhibit s = .next { s with
        inhibit := { inEffect := false, timer := 0, line := true }
        slots := bank fun v => { s.slot v with lease := (s.lease? v).map fun l =>
          if l.state = .suspended then { l with state := .held } else l }
        hosts := (s.notifyAll .inhibitOff).hosts })

/-- Device reset begins at power-on and at a RESET low pulse of 1 µs or more: frames in progress are abandoned, every DRV
and NOTIFY line is inactive, and nothing that was live is ended, noticed or passed over; a shorter pulse does nothing (R4,
R143, R159, R175). That State keeps what it held until completion is deduced (notes/assumptions/12.md), and the operands are
the model's choice (notes/assumptions/11.md). -/
def Obligations.DeviceResetBegins : Prop :=
  ∀ (cause : ResetCause) (s : State),
    match cause with
    | .resetLine ns =>
      (ns < 1000 → exec (.deviceReset cause) s = .next s) ∧
      (1000 ≤ ns → ∃ t, exec (.deviceReset cause) s = .next t ∧
        t = { s with
          resetControl := { active := true, line := false, supplyMs := s.resetControl.supplyMs }
          inhibit := { s.inhibit with timer := 0 }
          ports := bank fun p => { s.port p with frame := none } } ∧
        (∀ c, t.drv c = false) ∧ ∀ h, t.notifyLow h = false)
    | .powerOn high => ∃ t, exec (.deviceReset cause) s = .next t ∧
        t = { s with
          resetControl := { active := true, line := high, supplyMs := 0 }
          inhibit := { s.inhibit with timer := 0 }
          ports := bank fun p => { s.port p with frame := none } } ∧
        (∀ c, t.drv c = false) ∧ ∀ h, t.notifyLow h = false

/-- Device reset completes with RESET high once the supply has stood for 5 ms, and every block takes its reset values; the
lines stand as the outside holds them (R19, R42, R114, R132, R144, R150, R160, R175). The row before 5 ms raises the RESET
line alone, and outside device reset it does nothing: the model's choice (notes/assumptions/11.md). -/
def Obligations.DeviceResetCompletes : Prop :=
  ∀ s : State,
    (s.resetControl.active = false → exec .resetComplete s = .next s) ∧
    (s.resetControl.active = true → s.resetControl.supplyMs < 5 →
      exec .resetComplete s = .next { s with resetControl := { s.resetControl with line := true } }) ∧
    (s.resetControl.active = true → 5 ≤ s.resetControl.supplyMs → ∃ t, exec .resetComplete s = .next t ∧
      (∀ c, t.channel c =
        { state := .free, settle := 0,
          config := { fallback := false, breakTime := 0, settleTime := 20, threshold := 3, policy := .report,
                      feedback := false, leasable := true },
          fault := { state := .healthy, count := 0, kind := .none, present := false } }) ∧
      (∀ v, t.slot v = { gen := 0, lease := none }) ∧ t.waitQueue = [] ∧
      (∀ h, t.host h =
        { quota := 6, ceiling := 7, config := decide (h = 0), clear := decide (h = 0), notices := [.powerOn],
          mask := 0x3FF0, lead := 50 }) ∧
      (∀ p, t.port p =
        { selLow := (s.port p).selLow, frame := none, reply := { seq := 0, result := .none, fields := [] },
          unread := false, frameError := false, errorKind := .none }) ∧
      t.sweep = 0 ∧ t.inhibit = { inEffect := false, timer := 0, line := s.inhibit.line } ∧
      t.resetControl = { active := false, line := true, supplyMs := 5 } ∧ t.fb = s.fb ∧ t.outside = s.outside ∧
      t.pending = s.pending)

/-! ### The shared operations -/

/-- The output level by channel state (R3) and the DRV line in device reset (R4), the leave of R12 and the hand over of R13,
row by row. -/
def Obligations.ChannelTables : Prop :=
  (∀ (s : State) (c : ChannelNo), s.drv c = (!s.resetControl.active &&
    match (s.channel c).state with
    | .driven _ level => level
    | .lockedOut => false
    | _ => (s.channel c).config.fallback)) ∧
  ∀ (ch : Channel) (v w : SlotNo) (level : Level) (remaining ms : Nat),
    (ch.state = .driven v level → ch.config.breakTime ≠ 0 →
      ch.leave = .brk none ch.config.breakTime 0 ∧ ch.handOver w = .brk (some w) ch.config.breakTime 0) ∧
    (ch.state = .driven v level → ch.config.breakTime = 0 → ch.leave = .free ∧ ch.handOver w = .reserved w) ∧
    (ch.state = .rearm v → ch.leave = .free ∧ ch.handOver w = .reserved w) ∧
    (ch.state = .reserved v → ch.leave = .free ∧ ch.handOver w = .reserved w) ∧
    (ch.state = .brk (some v) remaining ms →
      ch.leave = .brk none remaining ms ∧ ch.handOver w = .brk (some w) remaining ms) ∧
    (ch.state = .lockedOut → ch.leave = .lockedOut)

/-- A waiting lease is grantable when every channel of its set passes the channel condition, and no lease ahead of it in the
queue has a channel in common with it (R48, R49). -/
def Obligations.GrantableWhen : Prop :=
  ∀ (s : State) (ahead : List SlotNo) (w : SlotNo) (l : Lease), s.lease? w = some l →
    (s.grantable ahead w = true ↔
      (∀ c, inSet l.set c = true →
        (s.channel c).config.leasable = true ∧ (s.channel c).state ≠ .lockedOut ∧
        ¬((s.channel c).fault.state = .faulted ∧ (s.channel c).config.policy = .revoke) ∧
        ∀ v, (s.channel c).state.link = some v → ∃ m, s.lease? v = some m ∧ m.preemptible = true ∧ m.priority < l.priority) ∧
      ∀ u ∈ ahead, ∀ m, s.lease? u = some m → ¬∃ c, inSet m.set c = true ∧ inSet l.set c = true)

/-- A pass grants the first grantable entry of the queue and goes on with the part as the grant has left it; when no entry
is grantable it changes nothing (R50). The grant of a grantable waiting lease pre-empts every lease that owns or reserves a channel
of its set, in ascending slot order, takes it out of the queue and reserves its whole set to it; then it is held, unless a channel
of the set is in BREAK (R51, R53, R54, R58, R61, R62). -/
def Obligations.PassGrantsInOrder : Prop :=
  ∀ (s : State) (own : Option SlotNo), s.tableLaw →
    (s.settled → s.pass own = s) ∧
    (∀ front w back, s.waitQueue = front ++ w :: back → s.grantable front w = true →
      (∀ front' u back', front = front' ++ u :: back' → s.grantable front' u = false) →
      s.pass own = (s.grant own w).pass own) ∧
    ∀ (ahead : List SlotNo) (w : SlotNo) (l : Lease),
      s.lease? w = some l → l.state = .waiting → s.grantable ahead w = true →
      let victims := (List.finRange 24).filter fun v =>
        decide (∃ c, inSet l.set c = true ∧ (s.channel c).state.link = some v)
      let s1 := victims.foldl (State.preempt w l.set) s
      let l' : Lease := { l with state := .granting, waitRemaining := 0, stepMs := 0 }
      let s2 : State := { s1.setLease w l' with
        channels := bank fun c => if inSet l.set c then
            { s1.channel c with state := match (s1.channel c).state with
              | .brk _ remaining ms => .brk (some w) remaining ms
              | _ => .reserved w }
          else s1.channel c
        waitQueue := s1.waitQueue.filter (· ≠ w) }
      s.grant own w =
        if ∃ c, inSet l.set c = true ∧ (s2.channel c).state.isBreak = true then s2 else s2.heldBy own w l'

/-- What pre-emption does to a victim: each channel of its set is handed over to the winner or leaves, and the lease returns
to the front of its priority group with a REQUEUED notice (R46, R55, R56), or ends with a PREEMPTED notice (R55, R57). -/
def Obligations.VictimPreempted : Prop :=
  ∀ (s : State) (w v : SlotNo) (wset : Word) (l : Lease), s.lease? v = some l →
    let channels := bank fun c => if inSet l.set c then
        { s.channel c with state := if inSet wset c then (s.channel c).handOver w else (s.channel c).leave }
      else s.channel c
    (l.requeue = true → l.maxWait ≠ 0 →
      let u := s.setLease v
        { l with state := .waiting, waitRemaining := l.maxWait, remaining := 0, commanded := none, warned := false,
                 stepMs := 0 }
      State.preempt w wset s v = ({ u with
        channels := channels
        waitQueue := s.waitQueue.takeWhile (fun x => l.priority < u.priorityOf x) ++ v ::
          s.waitQueue.dropWhile (fun x => l.priority < u.priorityOf x) } : State).notify l.holder
            (.requeued (s.handle v) l.tag)) ∧
    (l.requeue = false ∨ l.maxWait = 0 →
      State.preempt w wset s v = ({ s with
        channels := channels
        slots := bankModify s.slots v fun x => { gen := x.gen + 1, lease := none } } : State).notify l.holder
          (.preempted (s.handle v) l.tag (l.set &&& wset)))

/-- A notice meant for a host is dropped when it is maskable and its place in the mask is clear (R137); otherwise it joins the
queue, or OVERFLOW joins in its place, or it is dropped behind an OVERFLOW (R138). -/
def Obligations.NoticeAppended : Prop :=
  ∀ (n : Notice) (r : HostRecord),
    (4 ≤ n.code → r.mask.getLsbD n.code = false → r.receive n = r) ∧
    (n.code < 4 ∨ r.mask.getLsbD n.code = true →
      (.overflow ∉ r.notices → r.notices.length ≤ 10 → r.receive n = { r with notices := r.notices ++ [n] }) ∧
      (.overflow ∉ r.notices → r.notices.length = 11 → r.receive n = { r with notices := r.notices ++ [.overflow] }) ∧
      (.overflow ∈ r.notices → r.receive n = r))

/-- The record of each notice kind on the wire: the fields that its kind carries, and 0 in every other (R135, R181). -/
def Obligations.NoticeLayout : Prop :=
  ∀ (h : Handle) (tag taken : Word) (remaining : Nat) (c : ChannelNo) (kind : FaultKind) (g : HostNo),
    let lease := [byteOf h.slot.val, h.gen] ++ bytesOfWord tag
    Notice.powerOn.bytes = 0x01 :: List.replicate 12 0 ∧
    Notice.tableReset.bytes = 0x02 :: List.replicate 12 0 ∧
    Notice.overflow.bytes = 0x03 :: List.replicate 12 0 ∧
    (Notice.granted h tag).bytes = 0x04 :: 1 :: lease ++ List.replicate 7 0 ∧
    (Notice.waitTimeout h tag).bytes = 0x05 :: 1 :: lease ++ List.replicate 7 0 ∧
    (Notice.expiring h tag remaining).bytes = 0x06 :: 1 :: lease ++ [0, 0, 0, 0, byteOf remaining, 0, 0] ∧
    (Notice.expired h tag).bytes = 0x07 :: 1 :: lease ++ List.replicate 7 0 ∧
    (Notice.preempted h tag taken).bytes = 0x08 :: 1 :: lease ++ [0, 0] ++ bytesOfWord taken ++ [0, 0, 0] ∧
    (Notice.requeued h tag).bytes = 0x09 :: 1 :: lease ++ List.replicate 7 0 ∧
    (Notice.revokedFault h tag c kind).bytes = 0x0A :: 1 :: lease ++ [byteOf c.val, kind.code, 0, 0, 0, 1, 0] ∧
    (Notice.revokedAdmin h tag g).bytes = 0x0A :: 1 :: lease ++ [0, 0, 0, 0, 0, 2, byteOf g.val] ∧
    (Notice.channelFault c kind (some (h, tag))).bytes = 0x0B :: 1 :: lease ++ [byteOf c.val, kind.code, 0, 0, 0, 0, 0] ∧
    (Notice.channelFault c kind none).bytes = [0x0B, 0, 0, 0, 0, 0, byteOf c.val, kind.code, 0, 0, 0, 0, 0] ∧
    Notice.inhibitOn.bytes = 0x0C :: List.replicate 12 0 ∧
    Notice.inhibitOff.bytes = 0x0D :: List.replicate 12 0

/-! ### The laws of the device -/

/-- The laws hold right after device reset. -/
def Obligations.LawsAtReset : Prop :=
  State.reset.noticesLaw ∧ State.reset.authorityLaw ∧ State.reset.quotaLaw ∧ State.reset.inhibitLaw ∧
    State.reset.tableLaw ∧ State.reset.recordLaw ∧ State.reset.channelLaw ∧ State.reset.revokeLaw ∧ State.reset.settled

/-- Every step keeps every notice queue within 12 records, with OVERFLOW only at its back and a twelfth record OVERFLOW
(R136, R138). -/
def Obligations.NoticesLawKept : Prop :=
  ∀ s t : State, s.noticesLaw → step s = .next t → t.noticesLaw

/-- Every step keeps a host with the CONFIG right (R152), and keeps every host's live leases within its quota and its ceiling
(R29). -/
def Obligations.AuthorityLawsKept : Prop :=
  ∀ s t : State, s.authorityLaw → s.quotaLaw → step s = .next t → t.authorityLaw ∧ t.quotaLaw

/-- Every step keeps the law of inhibit: while it is in effect no channel is DRIVEN and no lease is HELD (R107). -/
def Obligations.InhibitLawKept : Prop :=
  ∀ s t : State, s.inhibitLaw → step s = .next t → t.inhibitLaw

/-- Every step keeps the wait queue exactly the WAITING leases in order (R44), every link on a live lease whose set contains
the channel (R1, R2), and every lease state true of its channels (R28), with the record fields of R26 and R27. -/
def Obligations.TableLawKept : Prop :=
  ∀ s t : State, s.tableLaw → s.recordLaw → step s = .next t → t.tableLaw ∧ t.recordLaw

/-- Every step keeps the ranges of a channel's record and configuration, what its fault record holds in each fault state, and
LOCKED_OUT within FAULTED (R1, R7, R116, R120, R125); and, where the links are those of the lease table, that a channel that is
LOCKED_OUT or FAULTED under REVOKE is neither owned nor reserved (R123). -/
def Obligations.ChannelLawKept : Prop :=
  ∀ s t : State, step s = .next t →
    (s.channelLaw → t.channelLaw) ∧ (s.tableLaw → s.revokeLaw → t.revokeLaw)

/-- No step leaves a waiting lease grantable where it stands: every event that could make one grantable runs a pass (R50,
R52). -/
def Obligations.SettledKept : Prop :=
  ∀ s t : State, s.tableLaw → s.settled → step s = .next t → t.settled

/-- A row other than RESET_COMPLETE leaves a slot's generation, or advances it by one with the slot FREE after it, and it
advances the generation of a slot that held a lease exactly when it frees the slot (R22). -/
def Obligations.GenerationAdvancesOnFree : Prop :=
  ∀ (i : Instr) (s t : State) (v : SlotNo), i ≠ .resetComplete → exec i s = .next t →
    ((t.slot v).gen = (s.slot v).gen ∨ (t.slot v).gen = (s.slot v).gen + 1 ∧ t.lease? v = none) ∧
    (s.lease? v ≠ none → (t.lease? v = none ↔ (t.slot v).gen = (s.slot v).gen + 1))

/-- What each row leaves alone: another port's record, the configurations, the authority table, the masks and leads, the sweep
position and the qualified inhibit state change only by their own rows, by a frame that carries one, and by device reset
(R43, R117, R137, R142, R147, R153, R157, R161, R171). -/
def Obligations.OwnRowsAlone : Prop :=
  ∀ (i : Instr) (s t : State), i ≠ .resetComplete → exec i s = .next t →
    (∀ p, i.portOf ≠ some p → (∀ cause, i ≠ .deviceReset cause) → t.port p = s.port p) ∧
    ((∀ q bits, i ≠ .frameError q bits) →
      ((∀ p n seq c a b d e, i ≠ .setChannel p n seq c a b d e) → ∀ c, (t.channel c).config = (s.channel c).config) ∧
      ((∀ p n seq a b c d, i ≠ .setHost p n seq a b c d) → ∀ h, (t.host h).quota = (s.host h).quota ∧
        (t.host h).ceiling = (s.host h).ceiling ∧ (t.host h).config = (s.host h).config ∧
        (t.host h).clear = (s.host h).clear) ∧
      ((∀ p n seq mask lead, i ≠ .setNotices p n seq mask lead) →
        ∀ h, (t.host h).mask = (s.host h).mask ∧ (t.host h).lead = (s.host h).lead)) ∧
    ((∀ fb, i ≠ .sweepVisit fb) → t.sweep = s.sweep) ∧
    (i ≠ .assertion → i ≠ .releaseOfInhibit → t.inhibit.inEffect = s.inhibit.inEffect)
end

