-- ==== Sys2Proof/Laws/Bank.lean ====
section
/-! SUPPORT. Reading a bank of records and a channel set. -/

namespace Sys2Proof

@[simp] theorem bank_get {n : Nat} {α : Type} (f : Fin n → α) (i : Fin n) : (bank f).get i = f i := by
  simp [bank, Vector.get]; rfl

theorem get_eq_getElem {n : Nat} {α : Type} (v : Vector α n) (i : Fin n) : v.get i = v[i.val] := rfl

/-- Two banks are equal when their records are. -/
theorem bank_ext {n : Nat} {α : Type} {v w : Vector α n} (h : ∀ i, v.get i = w.get i) : v = w := by
  apply Vector.ext
  intro i hi
  exact h ⟨i, hi⟩

@[simp] theorem bank_eta {n : Nat} {α : Type} (v : Vector α n) : bank v.get = v := bank_ext fun i => by simp

theorem bankModify_get {n : Nat} {α : Type} (v : Vector α n) (i j : Fin n) (f : α → α) :
    (bankModify v i f).get j = if j = i then f (v.get j) else v.get j := by
  simp [bankModify]

@[simp] theorem bankModify_get_self {n : Nat} {α : Type} (v : Vector α n) (i : Fin n) (f : α → α) :
    (bankModify v i f).get i = f (v.get i) := by
  simp [bankModify]

theorem bankModify_get_ne {n : Nat} {α : Type} (v : Vector α n) {i j : Fin n} (f : α → α) (h : j ≠ i) :
    (bankModify v i f).get j = v.get j := by
  simp [bankModify, h]

@[simp] theorem inSet_setOf (p : ChannelNo → Bool) (c : ChannelNo) : inSet (setOf p) c = p c := by
  simp [inSet, setOf]

/-- Two channel sets are equal when they have the same members. -/
theorem set_ext {a b : Word} (h : ∀ c, inSet a c = inSet b c) : a = b := by
  apply BitVec.eq_of_getLsbD_eq
  intro i hi
  exact h ⟨i, hi⟩

@[simp] theorem inSet_and (a b : Word) (c : ChannelNo) : inSet (a &&& b) c = (inSet a c && inSet b c) := by
  simp [inSet]

@[simp] theorem inSet_or (a b : Word) (c : ChannelNo) : inSet (a ||| b) c = (inSet a c || inSet b c) := by
  simp [inSet]

@[simp] theorem inSet_not (a : Word) (c : ChannelNo) : inSet (~~~a) c = !inSet a c := by
  have h : c.val < 16 := c.isLt
  simp [inSet, h]

@[simp] theorem inSet_zero (c : ChannelNo) : inSet 0#16 c = false := by
  simp [inSet]

theorem subset_iff (a b : Word) : subset a b = true ↔ ∀ c, inSet a c = true → inSet b c = true := by
  have key : (∀ c, inSet a c = true → inSet b c = true) ↔ a &&& ~~~b = 0#16 := by
    constructor
    · intro h
      apply set_ext
      intro c
      have hc := h c
      rw [inSet_and, inSet_not, inSet_zero]
      revert hc
      cases inSet a c <;> cases inSet b c <;> decide
    · intro h c ha
      have hc : inSet (a &&& ~~~b) c = inSet 0#16 c := by rw [h]
      rw [inSet_and, inSet_not, inSet_zero, ha] at hc
      revert hc
      cases inSet b c <;> decide
  rw [key]
  simp [subset]

theorem overlaps_iff (a b : Word) : overlaps a b = true ↔ ∃ c, inSet a c = true ∧ inSet b c = true := by
  have key : (∀ c, inSet a c = true → inSet b c = false) ↔ a &&& b = 0#16 := by
    constructor
    · intro h
      apply set_ext
      intro c
      have hc := h c
      rw [inSet_and, inSet_zero]
      revert hc
      cases inSet a c <;> cases inSet b c <;> decide
    · intro h c ha
      have hc : inSet (a &&& b) c = inSet 0#16 c := by rw [h]
      rw [inSet_and, inSet_zero, ha] at hc
      simpa using hc
  have h2 : overlaps a b = true ↔ ¬ (a &&& b = 0#16) := by simp [overlaps]
  rw [h2, ← key]
  simp

end Sys2Proof
end

