-- ==== Sys2Proof/Laws/State.lean ====
section
/-! SUPPORT. What each named update of the state changes and what it leaves: one lemma for each field and update, and what
each accessor of a bank reads after it. -/

namespace Sys2Proof.Machine

variable (s : State)

/-! ### mapChannels -/

@[simp] theorem mapChannels_slots (f : ChannelNo → Channel → Channel) : (s.mapChannels f).slots = s.slots := rfl
@[simp] theorem mapChannels_waitQueue (f : ChannelNo → Channel → Channel) : (s.mapChannels f).waitQueue = s.waitQueue := rfl
@[simp] theorem mapChannels_hosts (f : ChannelNo → Channel → Channel) : (s.mapChannels f).hosts = s.hosts := rfl
@[simp] theorem mapChannels_ports (f : ChannelNo → Channel → Channel) : (s.mapChannels f).ports = s.ports := rfl
@[simp] theorem mapChannels_sweep (f : ChannelNo → Channel → Channel) : (s.mapChannels f).sweep = s.sweep := rfl
@[simp] theorem mapChannels_inhibit (f : ChannelNo → Channel → Channel) : (s.mapChannels f).inhibit = s.inhibit := rfl
@[simp] theorem mapChannels_resetControl (f : ChannelNo → Channel → Channel) : (s.mapChannels f).resetControl = s.resetControl := rfl
@[simp] theorem mapChannels_fb (f : ChannelNo → Channel → Channel) : (s.mapChannels f).fb = s.fb := rfl
@[simp] theorem mapChannels_outside (f : ChannelNo → Channel → Channel) : (s.mapChannels f).outside = s.outside := rfl
@[simp] theorem mapChannels_pending (f : ChannelNo → Channel → Channel) : (s.mapChannels f).pending = s.pending := rfl
@[simp] theorem mapChannels_slot (f : ChannelNo → Channel → Channel) (v' : SlotNo) : (s.mapChannels f).slot v' = s.slot v' := rfl
@[simp] theorem mapChannels_host (f : ChannelNo → Channel → Channel) (h' : HostNo) : (s.mapChannels f).host h' = s.host h' := rfl
@[simp] theorem mapChannels_port (f : ChannelNo → Channel → Channel) (p' : HostNo) : (s.mapChannels f).port p' = s.port p' := rfl
@[simp] theorem mapChannels_lease (f : ChannelNo → Channel → Channel) (v' : SlotNo) : (s.mapChannels f).lease? v' = s.lease? v' := rfl
@[simp] theorem mapChannels_handle (f : ChannelNo → Channel → Channel) (v' : SlotNo) : (s.mapChannels f).handle v' = s.handle v' := rfl

/-! ### mapSet -/

@[simp] theorem mapSet_slots (set : Word) (f : Channel → ChannelState) : (s.mapSet set f).slots = s.slots := rfl
@[simp] theorem mapSet_waitQueue (set : Word) (f : Channel → ChannelState) : (s.mapSet set f).waitQueue = s.waitQueue := rfl
@[simp] theorem mapSet_hosts (set : Word) (f : Channel → ChannelState) : (s.mapSet set f).hosts = s.hosts := rfl
@[simp] theorem mapSet_ports (set : Word) (f : Channel → ChannelState) : (s.mapSet set f).ports = s.ports := rfl
@[simp] theorem mapSet_sweep (set : Word) (f : Channel → ChannelState) : (s.mapSet set f).sweep = s.sweep := rfl
@[simp] theorem mapSet_inhibit (set : Word) (f : Channel → ChannelState) : (s.mapSet set f).inhibit = s.inhibit := rfl
@[simp] theorem mapSet_resetControl (set : Word) (f : Channel → ChannelState) : (s.mapSet set f).resetControl = s.resetControl := rfl
@[simp] theorem mapSet_fb (set : Word) (f : Channel → ChannelState) : (s.mapSet set f).fb = s.fb := rfl
@[simp] theorem mapSet_outside (set : Word) (f : Channel → ChannelState) : (s.mapSet set f).outside = s.outside := rfl
@[simp] theorem mapSet_pending (set : Word) (f : Channel → ChannelState) : (s.mapSet set f).pending = s.pending := rfl
@[simp] theorem mapSet_slot (set : Word) (f : Channel → ChannelState) (v' : SlotNo) : (s.mapSet set f).slot v' = s.slot v' := rfl
@[simp] theorem mapSet_host (set : Word) (f : Channel → ChannelState) (h' : HostNo) : (s.mapSet set f).host h' = s.host h' := rfl
@[simp] theorem mapSet_port (set : Word) (f : Channel → ChannelState) (p' : HostNo) : (s.mapSet set f).port p' = s.port p' := rfl
@[simp] theorem mapSet_lease (set : Word) (f : Channel → ChannelState) (v' : SlotNo) : (s.mapSet set f).lease? v' = s.lease? v' := rfl
@[simp] theorem mapSet_handle (set : Word) (f : Channel → ChannelState) (v' : SlotNo) : (s.mapSet set f).handle v' = s.handle v' := rfl

/-! ### modifyChannel -/

@[simp] theorem modifyChannel_slots (c : ChannelNo) (f : Channel → Channel) : (s.modifyChannel c f).slots = s.slots := rfl
@[simp] theorem modifyChannel_waitQueue (c : ChannelNo) (f : Channel → Channel) : (s.modifyChannel c f).waitQueue = s.waitQueue := rfl
@[simp] theorem modifyChannel_hosts (c : ChannelNo) (f : Channel → Channel) : (s.modifyChannel c f).hosts = s.hosts := rfl
@[simp] theorem modifyChannel_ports (c : ChannelNo) (f : Channel → Channel) : (s.modifyChannel c f).ports = s.ports := rfl
@[simp] theorem modifyChannel_sweep (c : ChannelNo) (f : Channel → Channel) : (s.modifyChannel c f).sweep = s.sweep := rfl
@[simp] theorem modifyChannel_inhibit (c : ChannelNo) (f : Channel → Channel) : (s.modifyChannel c f).inhibit = s.inhibit := rfl
@[simp] theorem modifyChannel_resetControl (c : ChannelNo) (f : Channel → Channel) : (s.modifyChannel c f).resetControl = s.resetControl := rfl
@[simp] theorem modifyChannel_fb (c : ChannelNo) (f : Channel → Channel) : (s.modifyChannel c f).fb = s.fb := rfl
@[simp] theorem modifyChannel_outside (c : ChannelNo) (f : Channel → Channel) : (s.modifyChannel c f).outside = s.outside := rfl
@[simp] theorem modifyChannel_pending (c : ChannelNo) (f : Channel → Channel) : (s.modifyChannel c f).pending = s.pending := rfl
@[simp] theorem modifyChannel_slot (c : ChannelNo) (f : Channel → Channel) (v' : SlotNo) : (s.modifyChannel c f).slot v' = s.slot v' := rfl
@[simp] theorem modifyChannel_host (c : ChannelNo) (f : Channel → Channel) (h' : HostNo) : (s.modifyChannel c f).host h' = s.host h' := rfl
@[simp] theorem modifyChannel_port (c : ChannelNo) (f : Channel → Channel) (p' : HostNo) : (s.modifyChannel c f).port p' = s.port p' := rfl
@[simp] theorem modifyChannel_lease (c : ChannelNo) (f : Channel → Channel) (v' : SlotNo) : (s.modifyChannel c f).lease? v' = s.lease? v' := rfl
@[simp] theorem modifyChannel_handle (c : ChannelNo) (f : Channel → Channel) (v' : SlotNo) : (s.modifyChannel c f).handle v' = s.handle v' := rfl

/-! ### modifySlot -/

@[simp] theorem modifySlot_channels (v : SlotNo) (f : Slot → Slot) : (s.modifySlot v f).channels = s.channels := rfl
@[simp] theorem modifySlot_waitQueue (v : SlotNo) (f : Slot → Slot) : (s.modifySlot v f).waitQueue = s.waitQueue := rfl
@[simp] theorem modifySlot_hosts (v : SlotNo) (f : Slot → Slot) : (s.modifySlot v f).hosts = s.hosts := rfl
@[simp] theorem modifySlot_ports (v : SlotNo) (f : Slot → Slot) : (s.modifySlot v f).ports = s.ports := rfl
@[simp] theorem modifySlot_sweep (v : SlotNo) (f : Slot → Slot) : (s.modifySlot v f).sweep = s.sweep := rfl
@[simp] theorem modifySlot_inhibit (v : SlotNo) (f : Slot → Slot) : (s.modifySlot v f).inhibit = s.inhibit := rfl
@[simp] theorem modifySlot_resetControl (v : SlotNo) (f : Slot → Slot) : (s.modifySlot v f).resetControl = s.resetControl := rfl
@[simp] theorem modifySlot_fb (v : SlotNo) (f : Slot → Slot) : (s.modifySlot v f).fb = s.fb := rfl
@[simp] theorem modifySlot_outside (v : SlotNo) (f : Slot → Slot) : (s.modifySlot v f).outside = s.outside := rfl
@[simp] theorem modifySlot_pending (v : SlotNo) (f : Slot → Slot) : (s.modifySlot v f).pending = s.pending := rfl
@[simp] theorem modifySlot_channel (v : SlotNo) (f : Slot → Slot) (c' : ChannelNo) : (s.modifySlot v f).channel c' = s.channel c' := rfl
@[simp] theorem modifySlot_host (v : SlotNo) (f : Slot → Slot) (h' : HostNo) : (s.modifySlot v f).host h' = s.host h' := rfl
@[simp] theorem modifySlot_port (v : SlotNo) (f : Slot → Slot) (p' : HostNo) : (s.modifySlot v f).port p' = s.port p' := rfl

/-! ### modifyLease -/

@[simp] theorem modifyLease_channels (v : SlotNo) (f : Lease → Lease) : (s.modifyLease v f).channels = s.channels := rfl
@[simp] theorem modifyLease_waitQueue (v : SlotNo) (f : Lease → Lease) : (s.modifyLease v f).waitQueue = s.waitQueue := rfl
@[simp] theorem modifyLease_hosts (v : SlotNo) (f : Lease → Lease) : (s.modifyLease v f).hosts = s.hosts := rfl
@[simp] theorem modifyLease_ports (v : SlotNo) (f : Lease → Lease) : (s.modifyLease v f).ports = s.ports := rfl
@[simp] theorem modifyLease_sweep (v : SlotNo) (f : Lease → Lease) : (s.modifyLease v f).sweep = s.sweep := rfl
@[simp] theorem modifyLease_inhibit (v : SlotNo) (f : Lease → Lease) : (s.modifyLease v f).inhibit = s.inhibit := rfl
@[simp] theorem modifyLease_resetControl (v : SlotNo) (f : Lease → Lease) : (s.modifyLease v f).resetControl = s.resetControl := rfl
@[simp] theorem modifyLease_fb (v : SlotNo) (f : Lease → Lease) : (s.modifyLease v f).fb = s.fb := rfl
@[simp] theorem modifyLease_outside (v : SlotNo) (f : Lease → Lease) : (s.modifyLease v f).outside = s.outside := rfl
@[simp] theorem modifyLease_pending (v : SlotNo) (f : Lease → Lease) : (s.modifyLease v f).pending = s.pending := rfl
@[simp] theorem modifyLease_channel (v : SlotNo) (f : Lease → Lease) (c' : ChannelNo) : (s.modifyLease v f).channel c' = s.channel c' := rfl
@[simp] theorem modifyLease_host (v : SlotNo) (f : Lease → Lease) (h' : HostNo) : (s.modifyLease v f).host h' = s.host h' := rfl
@[simp] theorem modifyLease_port (v : SlotNo) (f : Lease → Lease) (p' : HostNo) : (s.modifyLease v f).port p' = s.port p' := rfl

/-! ### freeSlot -/

@[simp] theorem freeSlot_channels (v : SlotNo) : (s.freeSlot v).channels = s.channels := rfl
@[simp] theorem freeSlot_waitQueue (v : SlotNo) : (s.freeSlot v).waitQueue = s.waitQueue := rfl
@[simp] theorem freeSlot_hosts (v : SlotNo) : (s.freeSlot v).hosts = s.hosts := rfl
@[simp] theorem freeSlot_ports (v : SlotNo) : (s.freeSlot v).ports = s.ports := rfl
@[simp] theorem freeSlot_sweep (v : SlotNo) : (s.freeSlot v).sweep = s.sweep := rfl
@[simp] theorem freeSlot_inhibit (v : SlotNo) : (s.freeSlot v).inhibit = s.inhibit := rfl
@[simp] theorem freeSlot_resetControl (v : SlotNo) : (s.freeSlot v).resetControl = s.resetControl := rfl
@[simp] theorem freeSlot_fb (v : SlotNo) : (s.freeSlot v).fb = s.fb := rfl
@[simp] theorem freeSlot_outside (v : SlotNo) : (s.freeSlot v).outside = s.outside := rfl
@[simp] theorem freeSlot_pending (v : SlotNo) : (s.freeSlot v).pending = s.pending := rfl
@[simp] theorem freeSlot_channel (v : SlotNo) (c' : ChannelNo) : (s.freeSlot v).channel c' = s.channel c' := rfl
@[simp] theorem freeSlot_host (v : SlotNo) (h' : HostNo) : (s.freeSlot v).host h' = s.host h' := rfl
@[simp] theorem freeSlot_port (v : SlotNo) (p' : HostNo) : (s.freeSlot v).port p' = s.port p' := rfl

/-! ### modifyHost -/

@[simp] theorem modifyHost_channels (h : HostNo) (f : HostRecord → HostRecord) : (s.modifyHost h f).channels = s.channels := rfl
@[simp] theorem modifyHost_slots (h : HostNo) (f : HostRecord → HostRecord) : (s.modifyHost h f).slots = s.slots := rfl
@[simp] theorem modifyHost_waitQueue (h : HostNo) (f : HostRecord → HostRecord) : (s.modifyHost h f).waitQueue = s.waitQueue := rfl
@[simp] theorem modifyHost_ports (h : HostNo) (f : HostRecord → HostRecord) : (s.modifyHost h f).ports = s.ports := rfl
@[simp] theorem modifyHost_sweep (h : HostNo) (f : HostRecord → HostRecord) : (s.modifyHost h f).sweep = s.sweep := rfl
@[simp] theorem modifyHost_inhibit (h : HostNo) (f : HostRecord → HostRecord) : (s.modifyHost h f).inhibit = s.inhibit := rfl
@[simp] theorem modifyHost_resetControl (h : HostNo) (f : HostRecord → HostRecord) : (s.modifyHost h f).resetControl = s.resetControl := rfl
@[simp] theorem modifyHost_fb (h : HostNo) (f : HostRecord → HostRecord) : (s.modifyHost h f).fb = s.fb := rfl
@[simp] theorem modifyHost_outside (h : HostNo) (f : HostRecord → HostRecord) : (s.modifyHost h f).outside = s.outside := rfl
@[simp] theorem modifyHost_pending (h : HostNo) (f : HostRecord → HostRecord) : (s.modifyHost h f).pending = s.pending := rfl
@[simp] theorem modifyHost_channel (h : HostNo) (f : HostRecord → HostRecord) (c' : ChannelNo) : (s.modifyHost h f).channel c' = s.channel c' := rfl
@[simp] theorem modifyHost_slot (h : HostNo) (f : HostRecord → HostRecord) (v' : SlotNo) : (s.modifyHost h f).slot v' = s.slot v' := rfl
@[simp] theorem modifyHost_port (h : HostNo) (f : HostRecord → HostRecord) (p' : HostNo) : (s.modifyHost h f).port p' = s.port p' := rfl
@[simp] theorem modifyHost_lease (h : HostNo) (f : HostRecord → HostRecord) (v' : SlotNo) : (s.modifyHost h f).lease? v' = s.lease? v' := rfl
@[simp] theorem modifyHost_handle (h : HostNo) (f : HostRecord → HostRecord) (v' : SlotNo) : (s.modifyHost h f).handle v' = s.handle v' := rfl

/-! ### mapHosts -/

@[simp] theorem mapHosts_channels (f : HostRecord → HostRecord) : (s.mapHosts f).channels = s.channels := rfl
@[simp] theorem mapHosts_slots (f : HostRecord → HostRecord) : (s.mapHosts f).slots = s.slots := rfl
@[simp] theorem mapHosts_waitQueue (f : HostRecord → HostRecord) : (s.mapHosts f).waitQueue = s.waitQueue := rfl
@[simp] theorem mapHosts_ports (f : HostRecord → HostRecord) : (s.mapHosts f).ports = s.ports := rfl
@[simp] theorem mapHosts_sweep (f : HostRecord → HostRecord) : (s.mapHosts f).sweep = s.sweep := rfl
@[simp] theorem mapHosts_inhibit (f : HostRecord → HostRecord) : (s.mapHosts f).inhibit = s.inhibit := rfl
@[simp] theorem mapHosts_resetControl (f : HostRecord → HostRecord) : (s.mapHosts f).resetControl = s.resetControl := rfl
@[simp] theorem mapHosts_fb (f : HostRecord → HostRecord) : (s.mapHosts f).fb = s.fb := rfl
@[simp] theorem mapHosts_outside (f : HostRecord → HostRecord) : (s.mapHosts f).outside = s.outside := rfl
@[simp] theorem mapHosts_pending (f : HostRecord → HostRecord) : (s.mapHosts f).pending = s.pending := rfl
@[simp] theorem mapHosts_channel (f : HostRecord → HostRecord) (c' : ChannelNo) : (s.mapHosts f).channel c' = s.channel c' := rfl
@[simp] theorem mapHosts_slot (f : HostRecord → HostRecord) (v' : SlotNo) : (s.mapHosts f).slot v' = s.slot v' := rfl
@[simp] theorem mapHosts_port (f : HostRecord → HostRecord) (p' : HostNo) : (s.mapHosts f).port p' = s.port p' := rfl
@[simp] theorem mapHosts_lease (f : HostRecord → HostRecord) (v' : SlotNo) : (s.mapHosts f).lease? v' = s.lease? v' := rfl
@[simp] theorem mapHosts_handle (f : HostRecord → HostRecord) (v' : SlotNo) : (s.mapHosts f).handle v' = s.handle v' := rfl

/-! ### notify -/

@[simp] theorem notify_channels (h : HostNo) (n : Notice) : (s.notify h n).channels = s.channels := rfl
@[simp] theorem notify_slots (h : HostNo) (n : Notice) : (s.notify h n).slots = s.slots := rfl
@[simp] theorem notify_waitQueue (h : HostNo) (n : Notice) : (s.notify h n).waitQueue = s.waitQueue := rfl
@[simp] theorem notify_ports (h : HostNo) (n : Notice) : (s.notify h n).ports = s.ports := rfl
@[simp] theorem notify_sweep (h : HostNo) (n : Notice) : (s.notify h n).sweep = s.sweep := rfl
@[simp] theorem notify_inhibit (h : HostNo) (n : Notice) : (s.notify h n).inhibit = s.inhibit := rfl
@[simp] theorem notify_resetControl (h : HostNo) (n : Notice) : (s.notify h n).resetControl = s.resetControl := rfl
@[simp] theorem notify_fb (h : HostNo) (n : Notice) : (s.notify h n).fb = s.fb := rfl
@[simp] theorem notify_outside (h : HostNo) (n : Notice) : (s.notify h n).outside = s.outside := rfl
@[simp] theorem notify_pending (h : HostNo) (n : Notice) : (s.notify h n).pending = s.pending := rfl
@[simp] theorem notify_channel (h : HostNo) (n : Notice) (c' : ChannelNo) : (s.notify h n).channel c' = s.channel c' := rfl
@[simp] theorem notify_slot (h : HostNo) (n : Notice) (v' : SlotNo) : (s.notify h n).slot v' = s.slot v' := rfl
@[simp] theorem notify_port (h : HostNo) (n : Notice) (p' : HostNo) : (s.notify h n).port p' = s.port p' := rfl
@[simp] theorem notify_lease (h : HostNo) (n : Notice) (v' : SlotNo) : (s.notify h n).lease? v' = s.lease? v' := rfl
@[simp] theorem notify_handle (h : HostNo) (n : Notice) (v' : SlotNo) : (s.notify h n).handle v' = s.handle v' := rfl

/-! ### notifyAll -/

@[simp] theorem notifyAll_channels (n : Notice) : (s.notifyAll n).channels = s.channels := rfl
@[simp] theorem notifyAll_slots (n : Notice) : (s.notifyAll n).slots = s.slots := rfl
@[simp] theorem notifyAll_waitQueue (n : Notice) : (s.notifyAll n).waitQueue = s.waitQueue := rfl
@[simp] theorem notifyAll_ports (n : Notice) : (s.notifyAll n).ports = s.ports := rfl
@[simp] theorem notifyAll_sweep (n : Notice) : (s.notifyAll n).sweep = s.sweep := rfl
@[simp] theorem notifyAll_inhibit (n : Notice) : (s.notifyAll n).inhibit = s.inhibit := rfl
@[simp] theorem notifyAll_resetControl (n : Notice) : (s.notifyAll n).resetControl = s.resetControl := rfl
@[simp] theorem notifyAll_fb (n : Notice) : (s.notifyAll n).fb = s.fb := rfl
@[simp] theorem notifyAll_outside (n : Notice) : (s.notifyAll n).outside = s.outside := rfl
@[simp] theorem notifyAll_pending (n : Notice) : (s.notifyAll n).pending = s.pending := rfl
@[simp] theorem notifyAll_channel (n : Notice) (c' : ChannelNo) : (s.notifyAll n).channel c' = s.channel c' := rfl
@[simp] theorem notifyAll_slot (n : Notice) (v' : SlotNo) : (s.notifyAll n).slot v' = s.slot v' := rfl
@[simp] theorem notifyAll_port (n : Notice) (p' : HostNo) : (s.notifyAll n).port p' = s.port p' := rfl
@[simp] theorem notifyAll_lease (n : Notice) (v' : SlotNo) : (s.notifyAll n).lease? v' = s.lease? v' := rfl
@[simp] theorem notifyAll_handle (n : Notice) (v' : SlotNo) : (s.notifyAll n).handle v' = s.handle v' := rfl

/-! ### modifyPort -/

@[simp] theorem modifyPort_channels (p : HostNo) (f : PortRecord → PortRecord) : (s.modifyPort p f).channels = s.channels := rfl
@[simp] theorem modifyPort_slots (p : HostNo) (f : PortRecord → PortRecord) : (s.modifyPort p f).slots = s.slots := rfl
@[simp] theorem modifyPort_waitQueue (p : HostNo) (f : PortRecord → PortRecord) : (s.modifyPort p f).waitQueue = s.waitQueue := rfl
@[simp] theorem modifyPort_hosts (p : HostNo) (f : PortRecord → PortRecord) : (s.modifyPort p f).hosts = s.hosts := rfl
@[simp] theorem modifyPort_sweep (p : HostNo) (f : PortRecord → PortRecord) : (s.modifyPort p f).sweep = s.sweep := rfl
@[simp] theorem modifyPort_inhibit (p : HostNo) (f : PortRecord → PortRecord) : (s.modifyPort p f).inhibit = s.inhibit := rfl
@[simp] theorem modifyPort_resetControl (p : HostNo) (f : PortRecord → PortRecord) : (s.modifyPort p f).resetControl = s.resetControl := rfl
@[simp] theorem modifyPort_fb (p : HostNo) (f : PortRecord → PortRecord) : (s.modifyPort p f).fb = s.fb := rfl
@[simp] theorem modifyPort_outside (p : HostNo) (f : PortRecord → PortRecord) : (s.modifyPort p f).outside = s.outside := rfl
@[simp] theorem modifyPort_pending (p : HostNo) (f : PortRecord → PortRecord) : (s.modifyPort p f).pending = s.pending := rfl
@[simp] theorem modifyPort_channel (p : HostNo) (f : PortRecord → PortRecord) (c' : ChannelNo) : (s.modifyPort p f).channel c' = s.channel c' := rfl
@[simp] theorem modifyPort_slot (p : HostNo) (f : PortRecord → PortRecord) (v' : SlotNo) : (s.modifyPort p f).slot v' = s.slot v' := rfl
@[simp] theorem modifyPort_host (p : HostNo) (f : PortRecord → PortRecord) (h' : HostNo) : (s.modifyPort p f).host h' = s.host h' := rfl
@[simp] theorem modifyPort_lease (p : HostNo) (f : PortRecord → PortRecord) (v' : SlotNo) : (s.modifyPort p f).lease? v' = s.lease? v' := rfl
@[simp] theorem modifyPort_handle (p : HostNo) (f : PortRecord → PortRecord) (v' : SlotNo) : (s.modifyPort p f).handle v' = s.handle v' := rfl

/-! ### answer -/

@[simp] theorem answer_channels (p : HostNo) (seq : Byte) (r : Result) (fields : List Byte) : (s.answer p seq r fields).channels = s.channels := rfl
@[simp] theorem answer_slots (p : HostNo) (seq : Byte) (r : Result) (fields : List Byte) : (s.answer p seq r fields).slots = s.slots := rfl
@[simp] theorem answer_waitQueue (p : HostNo) (seq : Byte) (r : Result) (fields : List Byte) : (s.answer p seq r fields).waitQueue = s.waitQueue := rfl
@[simp] theorem answer_hosts (p : HostNo) (seq : Byte) (r : Result) (fields : List Byte) : (s.answer p seq r fields).hosts = s.hosts := rfl
@[simp] theorem answer_sweep (p : HostNo) (seq : Byte) (r : Result) (fields : List Byte) : (s.answer p seq r fields).sweep = s.sweep := rfl
@[simp] theorem answer_inhibit (p : HostNo) (seq : Byte) (r : Result) (fields : List Byte) : (s.answer p seq r fields).inhibit = s.inhibit := rfl
@[simp] theorem answer_resetControl (p : HostNo) (seq : Byte) (r : Result) (fields : List Byte) : (s.answer p seq r fields).resetControl = s.resetControl := rfl
@[simp] theorem answer_fb (p : HostNo) (seq : Byte) (r : Result) (fields : List Byte) : (s.answer p seq r fields).fb = s.fb := rfl
@[simp] theorem answer_outside (p : HostNo) (seq : Byte) (r : Result) (fields : List Byte) : (s.answer p seq r fields).outside = s.outside := rfl
@[simp] theorem answer_pending (p : HostNo) (seq : Byte) (r : Result) (fields : List Byte) : (s.answer p seq r fields).pending = s.pending := rfl
@[simp] theorem answer_channel (p : HostNo) (seq : Byte) (r : Result) (fields : List Byte) (c' : ChannelNo) : (s.answer p seq r fields).channel c' = s.channel c' := rfl
@[simp] theorem answer_slot (p : HostNo) (seq : Byte) (r : Result) (fields : List Byte) (v' : SlotNo) : (s.answer p seq r fields).slot v' = s.slot v' := rfl
@[simp] theorem answer_host (p : HostNo) (seq : Byte) (r : Result) (fields : List Byte) (h' : HostNo) : (s.answer p seq r fields).host h' = s.host h' := rfl
@[simp] theorem answer_lease (p : HostNo) (seq : Byte) (r : Result) (fields : List Byte) (v' : SlotNo) : (s.answer p seq r fields).lease? v' = s.lease? v' := rfl
@[simp] theorem answer_handle (p : HostNo) (seq : Byte) (r : Result) (fields : List Byte) (v' : SlotNo) : (s.answer p seq r fields).handle v' = s.handle v' := rfl

/-! ### refuse -/

@[simp] theorem refuse_channels (p : HostNo) (seq : Byte) (r : Result) : (s.refuse p seq r).channels = s.channels := rfl
@[simp] theorem refuse_slots (p : HostNo) (seq : Byte) (r : Result) : (s.refuse p seq r).slots = s.slots := rfl
@[simp] theorem refuse_waitQueue (p : HostNo) (seq : Byte) (r : Result) : (s.refuse p seq r).waitQueue = s.waitQueue := rfl
@[simp] theorem refuse_hosts (p : HostNo) (seq : Byte) (r : Result) : (s.refuse p seq r).hosts = s.hosts := rfl
@[simp] theorem refuse_sweep (p : HostNo) (seq : Byte) (r : Result) : (s.refuse p seq r).sweep = s.sweep := rfl
@[simp] theorem refuse_inhibit (p : HostNo) (seq : Byte) (r : Result) : (s.refuse p seq r).inhibit = s.inhibit := rfl
@[simp] theorem refuse_resetControl (p : HostNo) (seq : Byte) (r : Result) : (s.refuse p seq r).resetControl = s.resetControl := rfl
@[simp] theorem refuse_fb (p : HostNo) (seq : Byte) (r : Result) : (s.refuse p seq r).fb = s.fb := rfl
@[simp] theorem refuse_outside (p : HostNo) (seq : Byte) (r : Result) : (s.refuse p seq r).outside = s.outside := rfl
@[simp] theorem refuse_pending (p : HostNo) (seq : Byte) (r : Result) : (s.refuse p seq r).pending = s.pending := rfl
@[simp] theorem refuse_channel (p : HostNo) (seq : Byte) (r : Result) (c' : ChannelNo) : (s.refuse p seq r).channel c' = s.channel c' := rfl
@[simp] theorem refuse_slot (p : HostNo) (seq : Byte) (r : Result) (v' : SlotNo) : (s.refuse p seq r).slot v' = s.slot v' := rfl
@[simp] theorem refuse_host (p : HostNo) (seq : Byte) (r : Result) (h' : HostNo) : (s.refuse p seq r).host h' = s.host h' := rfl
@[simp] theorem refuse_lease (p : HostNo) (seq : Byte) (r : Result) (v' : SlotNo) : (s.refuse p seq r).lease? v' = s.lease? v' := rfl
@[simp] theorem refuse_handle (p : HostNo) (seq : Byte) (r : Result) (v' : SlotNo) : (s.refuse p seq r).handle v' = s.handle v' := rfl

/-! ### setQueue -/

@[simp] theorem setQueue_channels (q : List SlotNo) : (s.setQueue q).channels = s.channels := rfl
@[simp] theorem setQueue_slots (q : List SlotNo) : (s.setQueue q).slots = s.slots := rfl
@[simp] theorem setQueue_hosts (q : List SlotNo) : (s.setQueue q).hosts = s.hosts := rfl
@[simp] theorem setQueue_ports (q : List SlotNo) : (s.setQueue q).ports = s.ports := rfl
@[simp] theorem setQueue_sweep (q : List SlotNo) : (s.setQueue q).sweep = s.sweep := rfl
@[simp] theorem setQueue_inhibit (q : List SlotNo) : (s.setQueue q).inhibit = s.inhibit := rfl
@[simp] theorem setQueue_resetControl (q : List SlotNo) : (s.setQueue q).resetControl = s.resetControl := rfl
@[simp] theorem setQueue_fb (q : List SlotNo) : (s.setQueue q).fb = s.fb := rfl
@[simp] theorem setQueue_outside (q : List SlotNo) : (s.setQueue q).outside = s.outside := rfl
@[simp] theorem setQueue_pending (q : List SlotNo) : (s.setQueue q).pending = s.pending := rfl
@[simp] theorem setQueue_channel (q : List SlotNo) (c' : ChannelNo) : (s.setQueue q).channel c' = s.channel c' := rfl
@[simp] theorem setQueue_slot (q : List SlotNo) (v' : SlotNo) : (s.setQueue q).slot v' = s.slot v' := rfl
@[simp] theorem setQueue_host (q : List SlotNo) (h' : HostNo) : (s.setQueue q).host h' = s.host h' := rfl
@[simp] theorem setQueue_port (q : List SlotNo) (p' : HostNo) : (s.setQueue q).port p' = s.port p' := rfl
@[simp] theorem setQueue_lease (q : List SlotNo) (v' : SlotNo) : (s.setQueue q).lease? v' = s.lease? v' := rfl
@[simp] theorem setQueue_handle (q : List SlotNo) (v' : SlotNo) : (s.setQueue q).handle v' = s.handle v' := rfl

/-! ### enqueueBack -/

@[simp] theorem enqueueBack_channels (v : SlotNo) (pr : Priority) : (s.enqueueBack v pr).channels = s.channels := rfl
@[simp] theorem enqueueBack_slots (v : SlotNo) (pr : Priority) : (s.enqueueBack v pr).slots = s.slots := rfl
@[simp] theorem enqueueBack_hosts (v : SlotNo) (pr : Priority) : (s.enqueueBack v pr).hosts = s.hosts := rfl
@[simp] theorem enqueueBack_ports (v : SlotNo) (pr : Priority) : (s.enqueueBack v pr).ports = s.ports := rfl
@[simp] theorem enqueueBack_sweep (v : SlotNo) (pr : Priority) : (s.enqueueBack v pr).sweep = s.sweep := rfl
@[simp] theorem enqueueBack_inhibit (v : SlotNo) (pr : Priority) : (s.enqueueBack v pr).inhibit = s.inhibit := rfl
@[simp] theorem enqueueBack_resetControl (v : SlotNo) (pr : Priority) : (s.enqueueBack v pr).resetControl = s.resetControl := rfl
@[simp] theorem enqueueBack_fb (v : SlotNo) (pr : Priority) : (s.enqueueBack v pr).fb = s.fb := rfl
@[simp] theorem enqueueBack_outside (v : SlotNo) (pr : Priority) : (s.enqueueBack v pr).outside = s.outside := rfl
@[simp] theorem enqueueBack_pending (v : SlotNo) (pr : Priority) : (s.enqueueBack v pr).pending = s.pending := rfl
@[simp] theorem enqueueBack_channel (v : SlotNo) (pr : Priority) (c' : ChannelNo) : (s.enqueueBack v pr).channel c' = s.channel c' := rfl
@[simp] theorem enqueueBack_slot (v : SlotNo) (pr : Priority) (v' : SlotNo) : (s.enqueueBack v pr).slot v' = s.slot v' := rfl
@[simp] theorem enqueueBack_host (v : SlotNo) (pr : Priority) (h' : HostNo) : (s.enqueueBack v pr).host h' = s.host h' := rfl
@[simp] theorem enqueueBack_port (v : SlotNo) (pr : Priority) (p' : HostNo) : (s.enqueueBack v pr).port p' = s.port p' := rfl
@[simp] theorem enqueueBack_lease (v : SlotNo) (pr : Priority) (v' : SlotNo) : (s.enqueueBack v pr).lease? v' = s.lease? v' := rfl
@[simp] theorem enqueueBack_handle (v : SlotNo) (pr : Priority) (v' : SlotNo) : (s.enqueueBack v pr).handle v' = s.handle v' := rfl

/-! ### enqueueFront -/

@[simp] theorem enqueueFront_channels (v : SlotNo) (pr : Priority) : (s.enqueueFront v pr).channels = s.channels := rfl
@[simp] theorem enqueueFront_slots (v : SlotNo) (pr : Priority) : (s.enqueueFront v pr).slots = s.slots := rfl
@[simp] theorem enqueueFront_hosts (v : SlotNo) (pr : Priority) : (s.enqueueFront v pr).hosts = s.hosts := rfl
@[simp] theorem enqueueFront_ports (v : SlotNo) (pr : Priority) : (s.enqueueFront v pr).ports = s.ports := rfl
@[simp] theorem enqueueFront_sweep (v : SlotNo) (pr : Priority) : (s.enqueueFront v pr).sweep = s.sweep := rfl
@[simp] theorem enqueueFront_inhibit (v : SlotNo) (pr : Priority) : (s.enqueueFront v pr).inhibit = s.inhibit := rfl
@[simp] theorem enqueueFront_resetControl (v : SlotNo) (pr : Priority) : (s.enqueueFront v pr).resetControl = s.resetControl := rfl
@[simp] theorem enqueueFront_fb (v : SlotNo) (pr : Priority) : (s.enqueueFront v pr).fb = s.fb := rfl
@[simp] theorem enqueueFront_outside (v : SlotNo) (pr : Priority) : (s.enqueueFront v pr).outside = s.outside := rfl
@[simp] theorem enqueueFront_pending (v : SlotNo) (pr : Priority) : (s.enqueueFront v pr).pending = s.pending := rfl
@[simp] theorem enqueueFront_channel (v : SlotNo) (pr : Priority) (c' : ChannelNo) : (s.enqueueFront v pr).channel c' = s.channel c' := rfl
@[simp] theorem enqueueFront_slot (v : SlotNo) (pr : Priority) (v' : SlotNo) : (s.enqueueFront v pr).slot v' = s.slot v' := rfl
@[simp] theorem enqueueFront_host (v : SlotNo) (pr : Priority) (h' : HostNo) : (s.enqueueFront v pr).host h' = s.host h' := rfl
@[simp] theorem enqueueFront_port (v : SlotNo) (pr : Priority) (p' : HostNo) : (s.enqueueFront v pr).port p' = s.port p' := rfl
@[simp] theorem enqueueFront_lease (v : SlotNo) (pr : Priority) (v' : SlotNo) : (s.enqueueFront v pr).lease? v' = s.lease? v' := rfl
@[simp] theorem enqueueFront_handle (v : SlotNo) (pr : Priority) (v' : SlotNo) : (s.enqueueFront v pr).handle v' = s.handle v' := rfl

/-! ### dequeue -/

@[simp] theorem dequeue_channels (v : SlotNo) : (s.dequeue v).channels = s.channels := rfl
@[simp] theorem dequeue_slots (v : SlotNo) : (s.dequeue v).slots = s.slots := rfl
@[simp] theorem dequeue_hosts (v : SlotNo) : (s.dequeue v).hosts = s.hosts := rfl
@[simp] theorem dequeue_ports (v : SlotNo) : (s.dequeue v).ports = s.ports := rfl
@[simp] theorem dequeue_sweep (v : SlotNo) : (s.dequeue v).sweep = s.sweep := rfl
@[simp] theorem dequeue_inhibit (v : SlotNo) : (s.dequeue v).inhibit = s.inhibit := rfl
@[simp] theorem dequeue_resetControl (v : SlotNo) : (s.dequeue v).resetControl = s.resetControl := rfl
@[simp] theorem dequeue_fb (v : SlotNo) : (s.dequeue v).fb = s.fb := rfl
@[simp] theorem dequeue_outside (v : SlotNo) : (s.dequeue v).outside = s.outside := rfl
@[simp] theorem dequeue_pending (v : SlotNo) : (s.dequeue v).pending = s.pending := rfl
@[simp] theorem dequeue_channel (v : SlotNo) (c' : ChannelNo) : (s.dequeue v).channel c' = s.channel c' := rfl
@[simp] theorem dequeue_slot (v : SlotNo) (v' : SlotNo) : (s.dequeue v).slot v' = s.slot v' := rfl
@[simp] theorem dequeue_host (v : SlotNo) (h' : HostNo) : (s.dequeue v).host h' = s.host h' := rfl
@[simp] theorem dequeue_port (v : SlotNo) (p' : HostNo) : (s.dequeue v).port p' = s.port p' := rfl
@[simp] theorem dequeue_lease (v : SlotNo) (v' : SlotNo) : (s.dequeue v).lease? v' = s.lease? v' := rfl
@[simp] theorem dequeue_handle (v : SlotNo) (v' : SlotNo) : (s.dequeue v).handle v' = s.handle v' := rfl

/-! ### What each update writes -/

@[simp] theorem mapChannels_channel (f : ChannelNo → Channel → Channel) (c : ChannelNo) :
    (s.mapChannels f).channel c = f c (s.channel c) := by
  simp [State.mapChannels, State.channel]

@[simp] theorem mapSet_channel (set : Word) (f : Channel → ChannelState) (c : ChannelNo) :
    (s.mapSet set f).channel c =
      if inSet set c then { s.channel c with state := f (s.channel c) } else s.channel c := by
  simp [State.mapSet]

theorem modifyChannel_channel (c c' : ChannelNo) (f : Channel → Channel) :
    (s.modifyChannel c f).channel c' = if c' = c then f (s.channel c') else s.channel c' := by
  simp [State.modifyChannel, State.channel, bankModify_get]

@[simp] theorem modifyChannel_channel_self (c : ChannelNo) (f : Channel → Channel) :
    (s.modifyChannel c f).channel c = f (s.channel c) := by
  simp [modifyChannel_channel]

@[simp] theorem modifyChannel_channel_ne {c c' : ChannelNo} (h : c' ≠ c) (f : Channel → Channel) :
    (s.modifyChannel c f).channel c' = s.channel c' := by
  simp [modifyChannel_channel, h]

theorem modifySlot_slot (v v' : SlotNo) (f : Slot → Slot) :
    (s.modifySlot v f).slot v' = if v' = v then f (s.slot v') else s.slot v' := by
  simp [State.modifySlot, State.slot, bankModify_get]

@[simp] theorem modifySlot_slot_self (v : SlotNo) (f : Slot → Slot) : (s.modifySlot v f).slot v = f (s.slot v) := by
  simp [modifySlot_slot]

@[simp] theorem modifySlot_slot_ne {v v' : SlotNo} (h : v' ≠ v) (f : Slot → Slot) :
    (s.modifySlot v f).slot v' = s.slot v' := by
  simp [modifySlot_slot, h]

theorem modifyLease_slot (v v' : SlotNo) (f : Lease → Lease) :
    (s.modifyLease v f).slot v' =
      if v' = v then { s.slot v' with lease := (s.slot v').lease.map f } else s.slot v' := by
  simp [State.modifyLease, modifySlot_slot]

theorem modifyLease_lease (v v' : SlotNo) (f : Lease → Lease) :
    (s.modifyLease v f).lease? v' = if v' = v then (s.lease? v').map f else s.lease? v' := by
  unfold State.lease?
  rw [modifyLease_slot]
  split <;> rfl

@[simp] theorem modifyLease_lease_self (v : SlotNo) (f : Lease → Lease) :
    (s.modifyLease v f).lease? v = (s.lease? v).map f := by
  simp [modifyLease_lease]

@[simp] theorem modifyLease_lease_ne {v v' : SlotNo} (h : v' ≠ v) (f : Lease → Lease) :
    (s.modifyLease v f).lease? v' = s.lease? v' := by
  simp [modifyLease_lease, h]

@[simp] theorem modifyLease_gen (v v' : SlotNo) (f : Lease → Lease) :
    ((s.modifyLease v f).slot v').gen = (s.slot v').gen := by
  rw [modifyLease_slot]
  split <;> rfl

@[simp] theorem modifyLease_handle (v v' : SlotNo) (f : Lease → Lease) :
    (s.modifyLease v f).handle v' = s.handle v' := by
  simp [State.handle]

theorem freeSlot_slot (v v' : SlotNo) :
    (s.freeSlot v).slot v' = if v' = v then { gen := (s.slot v').gen + 1, lease := none } else s.slot v' := by
  simp [State.freeSlot, modifySlot_slot]

theorem freeSlot_lease (v v' : SlotNo) : (s.freeSlot v).lease? v' = if v' = v then none else s.lease? v' := by
  unfold State.lease?
  rw [freeSlot_slot]
  split <;> rfl

@[simp] theorem freeSlot_lease_self (v : SlotNo) : (s.freeSlot v).lease? v = none := by
  simp [freeSlot_lease]

@[simp] theorem freeSlot_lease_ne {v v' : SlotNo} (h : v' ≠ v) : (s.freeSlot v).lease? v' = s.lease? v' := by
  simp [freeSlot_lease, h]

theorem modifyHost_host (h h' : HostNo) (f : HostRecord → HostRecord) :
    (s.modifyHost h f).host h' = if h' = h then f (s.host h') else s.host h' := by
  simp [State.modifyHost, State.host, bankModify_get]

@[simp] theorem modifyHost_host_self (h : HostNo) (f : HostRecord → HostRecord) :
    (s.modifyHost h f).host h = f (s.host h) := by
  simp [modifyHost_host]

@[simp] theorem modifyHost_host_ne {h h' : HostNo} (hn : h' ≠ h) (f : HostRecord → HostRecord) :
    (s.modifyHost h f).host h' = s.host h' := by
  simp [modifyHost_host, hn]

@[simp] theorem mapHosts_host (f : HostRecord → HostRecord) (h : HostNo) : (s.mapHosts f).host h = f (s.host h) := by
  simp [State.mapHosts, State.host]

theorem notify_host (h h' : HostNo) (n : Notice) :
    (s.notify h n).host h' = if h' = h then (s.host h').receive n else s.host h' :=
  modifyHost_host s h h' _

@[simp] theorem notifyAll_host (n : Notice) (h : HostNo) : (s.notifyAll n).host h = (s.host h).receive n :=
  mapHosts_host s _ h

theorem modifyPort_port (p p' : HostNo) (f : PortRecord → PortRecord) :
    (s.modifyPort p f).port p' = if p' = p then f (s.port p') else s.port p' := by
  simp [State.modifyPort, State.port, bankModify_get]

@[simp] theorem modifyPort_port_self (p : HostNo) (f : PortRecord → PortRecord) :
    (s.modifyPort p f).port p = f (s.port p) := by
  simp [modifyPort_port]

@[simp] theorem modifyPort_port_ne {p p' : HostNo} (h : p' ≠ p) (f : PortRecord → PortRecord) :
    (s.modifyPort p f).port p' = s.port p' := by
  simp [modifyPort_port, h]

@[simp] theorem answer_port_self (p : HostNo) (seq : Byte) (r : Result) (fields : List Byte) :
    (s.answer p seq r fields).port p =
      { s.port p with reply := { seq := seq, result := r, fields := fields }, unread := true } :=
  modifyPort_port_self s p _

@[simp] theorem answer_port_ne {p p' : HostNo} (h : p' ≠ p) (seq : Byte) (r : Result) (fields : List Byte) :
    (s.answer p seq r fields).port p' = s.port p' :=
  modifyPort_port_ne s h _

@[simp] theorem setQueue_waitQueue (q : List SlotNo) : (s.setQueue q).waitQueue = q := rfl

@[simp] theorem dequeue_waitQueue (v : SlotNo) : (s.dequeue v).waitQueue = s.waitQueue.filter (· != v) := rfl

/-- Two states are equal when their banks' records and their other fields are. -/
theorem state_ext {s t : State} (hc : ∀ c, s.channel c = t.channel c) (hs : ∀ v, s.slot v = t.slot v)
    (hq : s.waitQueue = t.waitQueue) (hh : ∀ h, s.host h = t.host h) (hp : ∀ p, s.port p = t.port p)
    (hw : s.sweep = t.sweep) (hi : s.inhibit = t.inhibit) (hr : s.resetControl = t.resetControl) (hf : s.fb = t.fb)
    (ho : s.outside = t.outside) (hn : s.pending = t.pending) : s = t := by
  obtain ⟨c1, s1, q1, h1, p1, w1, i1, r1, f1, o1, n1⟩ := s
  obtain ⟨c2, s2, q2, h2, p2, w2, i2, r2, f2, o2, n2⟩ := t
  have ec : c1 = c2 := bank_ext hc
  have es : s1 = s2 := bank_ext hs
  have eh : h1 = h2 := bank_ext hh
  have ep : p1 = p2 := bank_ext hp
  simp only at hq hw hi hr hf ho hn
  subst ec es eh ep hq hw hi hr hf ho hn
  rfl

end Sys2Proof.Machine
end

