-- ==== Sys2Proof/Laws/Ops.lean ====
section
/-! SUPPORT. What each shared operation can do: the end of an event, the end of a frame, the append discipline, the
lease-end procedure, and the arbitration pass with its grants. -/

namespace Sys2Proof.Machine

/-! ### The end of an event -/

@[simp] theorem syncOutputs_channel (s t : State) (c : ChannelNo) :
    (syncOutputs s t).channel c =
      if (t.channel c).output = (s.channel c).output then t.channel c else (t.channel c).levelChanged := by
  simp [syncOutputs]

/-- An event that leaves every output level as it was changes nothing at its end (R5). -/
theorem syncOutputs_of_output {s t : State} (h : ∀ c, (t.channel c).output = (s.channel c).output) :
    syncOutputs s t = t := by
  apply state_ext <;> intros <;> first | rfl | simp [h]

@[simp] theorem syncOutputs_self (s : State) : syncOutputs s s = s := syncOutputs_of_output fun _ => rfl

@[simp] theorem levelChanged_state (ch : Channel) : ch.levelChanged.state = ch.state := rfl
@[simp] theorem levelChanged_config (ch : Channel) : ch.levelChanged.config = ch.config := rfl
@[simp] theorem levelChanged_settle (ch : Channel) : ch.levelChanged.settle = 0 := rfl

/-- The end of an event changes no channel's state, link or configuration. -/
@[simp] theorem syncOutputs_channel_state (s t : State) (c : ChannelNo) :
    ((syncOutputs s t).channel c).state = (t.channel c).state := by
  rw [syncOutputs_channel]; split <;> rfl

@[simp] theorem syncOutputs_channel_config (s t : State) (c : ChannelNo) :
    ((syncOutputs s t).channel c).config = (t.channel c).config := by
  rw [syncOutputs_channel]; split <;> rfl

@[simp] theorem syncOutputs_channel_output (s t : State) (c : ChannelNo) :
    ((syncOutputs s t).channel c).output = (t.channel c).output := by
  rw [syncOutputs_channel]; split <;> rfl

/-- The end of an event and a change of a port do not meet. -/
theorem syncOutputs_modifyPort (s t : State) (p : HostNo) (f : PortRecord → PortRecord) :
    syncOutputs s (t.modifyPort p f) = (syncOutputs s t).modifyPort p f := rfl

/-- The levels before an event are those of the channels alone. -/
theorem syncOutputs_of_channels {s s' t : State} (h : ∀ c, s'.channel c = s.channel c) :
    syncOutputs s' t = syncOutputs s t := by
  apply state_ext <;> intros <;> first | rfl | simp [h]

theorem event_of_running {s : State} (h : s.resetControl.active = false) (f : State → State) :
    event f s = syncOutputs s (f s) := by
  simp [event, h]

theorem event_of_reset {s : State} (h : s.resetControl.active = true) (f : State → State) : event f s = s := by
  simp [event, h]

/-! ### The end of a frame -/

/-- The port `p` at the rising edge of a valid frame of `n` clocks, before its command is executed. -/
theorem begun_answer (s : State) (p : HostNo) (n : Nat) (seq : Byte) (r : Result) (fields : List Byte) :
    ((s.modifyPort p (PortRecord.endFrame n)).modifyPort p PortRecord.accept).answer p seq r fields =
      s.replied p seq r fields := by
  apply state_ext <;> intros <;> try rfl
  rename_i q
  by_cases hq : q = p
  · subst hq
    simp [State.replied, PortRecord.replied, PortRecord.accept, PortRecord.endFrame]
  · simp [State.replied, hq]

theorem frameEnd_listens {s : State} {p : HostNo} (h : s.listens p = true) (n : Nat) (after : State → State) :
    frameEnd p n after s = syncOutputs s (after (s.modifyPort p (PortRecord.endFrame n))) := by
  unfold State.listens at h
  have hr : s.resetControl.active = false := by revert h; cases s.resetControl.active <;> simp
  have hg : (s.resetControl.active || ((s.port p).selLow && (s.port p).frame.isNone)) = false := by
    rw [hr] at h ⊢
    revert h
    cases (s.port p).selLow <;> cases (s.port p).frame <;> simp
  unfold frameEnd
  rw [hg]
  simp [event_of_running hr]

theorem frameEnd_deaf {s : State} {p : HostNo} (h : s.listens p = false) (n : Nat) (after : State → State) :
    frameEnd p n after s = s.modifyPort p fun x => { x with selLow := false } := by
  unfold State.listens at h
  have hg : (s.resetControl.active || ((s.port p).selLow && (s.port p).frame.isNone)) = true := by
    revert h
    cases s.resetControl.active <;> cases (s.port p).selLow <;> cases (s.port p).frame <;> simp
  unfold frameEnd
  rw [hg]
  simp

theorem clocksFit_pos {payload n : Nat} (h : clocksFit payload n = true) : n ≠ 0 := by
  rintro rfl
  simp [clocksFit, lengthError] at h

/-- A command in a frame that fits it runs its body in the event of the rising edge (R168). -/
theorem onFrame_fits {s : State} {p : HostNo} {n payload : Nat} (h : s.listens p = true)
    (hf : clocksFit payload n = true) (body : State → State) :
    onFrame p n payload body s =
      syncOutputs s (body ((s.modifyPort p (PortRecord.endFrame n)).modifyPort p PortRecord.accept)) := by
  have h0 := clocksFit_pos hf
  have hl : lengthError payload n = none := by simpa [clocksFit] using hf
  simp [onFrame, frameEnd_listens h, h0, hl]

theorem onFrame_deaf {s : State} {p : HostNo} (h : s.listens p = false) (n payload : Nat) (body : State → State) :
    onFrame p n payload body s = s.modifyPort p fun x => { x with selLow := false } :=
  frameEnd_deaf h n _

/-- A command whose answer is `State.answer` on a state that the frame has not changed otherwise. -/
theorem onFrame_answer {s : State} {p : HostNo} {n payload : Nat} (h : s.listens p = true)
    (hf : clocksFit payload n = true) {body : State → State} {seq : Byte} {r : Result} {fields : List Byte}
    (hb : ∀ u : State, u = (s.modifyPort p (PortRecord.endFrame n)).modifyPort p PortRecord.accept →
      body u = u.answer p seq r fields) :
    onFrame p n payload body s = s.replied p seq r fields := by
  rw [onFrame_fits h hf, hb _ rfl, begun_answer]
  exact syncOutputs_of_output fun _ => rfl

/-! ### The SDO line -/

/-- Past the check byte the part sends zero bytes (R170). -/
theorem byte_past {x : Shifting} {i : Nat} (h : x.record.length + 2 ≤ i) : x.byte i = 0 := by
  have hl : x.sent.length = x.record.length + 2 := by simp [Shifting.sent]
  unfold Shifting.byte
  rw [List.getD_eq_default _ _ (by omega)]

/-- SDO is high-impedance while the select line is high (R163). -/
theorem sdo_of_high {s : State} {p : HostNo} (h : (s.port p).selLow = false) (k : Nat) : s.sdo p k = none := by
  simp [State.sdo, h]

/-- SDO is high-impedance while device reset is in progress (R175). -/
theorem sdo_of_reset {s : State} (h : s.resetControl.active = true) (p : HostNo) (k : Nat) : s.sdo p k = none := by
  simp [State.sdo, h]

/-- Within a frame SDO carries the bits of what the frame presents (R163). -/
theorem sdo_of_frame {s : State} {p : HostNo} {x : Shifting} (hr : s.resetControl.active = false)
    (hs : (s.port p).selLow = true) (hf : (s.port p).frame = some x) (k : Nat) : s.sdo p k = some (x.bit k) := by
  simp [State.sdo, hr, hs, hf]

/-! ### The notice queues -/

@[simp] theorem receive_quota (n : Notice) (r : HostRecord) : (r.receive n).quota = r.quota := by
  unfold HostRecord.receive; split <;> rfl
@[simp] theorem receive_ceiling (n : Notice) (r : HostRecord) : (r.receive n).ceiling = r.ceiling := by
  unfold HostRecord.receive; split <;> rfl
@[simp] theorem receive_config (n : Notice) (r : HostRecord) : (r.receive n).config = r.config := by
  unfold HostRecord.receive; split <;> rfl
@[simp] theorem receive_clear (n : Notice) (r : HostRecord) : (r.receive n).clear = r.clear := by
  unfold HostRecord.receive; split <;> rfl
@[simp] theorem receive_mask (n : Notice) (r : HostRecord) : (r.receive n).mask = r.mask := by
  unfold HostRecord.receive; split <;> rfl
@[simp] theorem receive_lead (n : Notice) (r : HostRecord) : (r.receive n).lead = r.lead := by
  unfold HostRecord.receive; split <;> rfl

/-- A notice the mask excludes leaves the record as it was (R137). -/
theorem receive_of_excluded {n : Notice} {r : HostRecord} (h : n.passes r.mask = false) : r.receive n = r := by
  simp [HostRecord.receive, h]

/-! ### The ports stand apart from the lease table -/

theorem takeOut_modifyPort (s : State) (p : HostNo) (f : PortRecord → PortRecord) (v : SlotNo) :
    (s.modifyPort p f).takeOut v = (s.takeOut v).modifyPort p f := by
  unfold State.takeOut
  rw [modifyPort_lease]
  split
  · rfl
  · split <;> rfl

theorem endLease_modifyPort (s : State) (p : HostNo) (f : PortRecord → PortRecord) (v : SlotNo) (n : Notice) :
    (s.modifyPort p f).endLease v n = (s.endLease v n).modifyPort p f := by
  unfold State.endLease
  rw [modifyPort_lease, takeOut_modifyPort]
  split <;> rfl

theorem warningCheck_modifyPort (s : State) (p : HostNo) (f : PortRecord → PortRecord) (v : SlotNo) :
    (s.modifyPort p f).warningCheck v = (s.warningCheck v).modifyPort p f := by
  unfold State.warningCheck
  rw [modifyPort_lease]
  split
  · rfl
  · rw [modifyPort_host]
    split <;> rfl

theorem holdLease_modifyPort (s : State) (p : HostNo) (f : PortRecord → PortRecord) (own : Option SlotNo) (v : SlotNo) :
    (s.modifyPort p f).holdLease own v = (s.holdLease own v).modifyPort p f := by
  unfold State.holdLease
  rw [modifyPort_lease]
  split
  · rfl
  · rw [← warningCheck_modifyPort]
    split <;> rfl

theorem preempt_modifyPort (s : State) (p : HostNo) (f : PortRecord → PortRecord) (w : SlotNo) (wset : Word)
    (v : SlotNo) : State.preempt w wset (s.modifyPort p f) v = (State.preempt w wset s v).modifyPort p f := by
  unfold State.preempt
  rw [modifyPort_lease]
  split
  · rfl
  · split <;> rfl

theorem preempts_modifyPort (p : HostNo) (f : PortRecord → PortRecord) (w : SlotNo) (wset : Word) (vs : List SlotNo)
    (s : State) :
    vs.foldl (State.preempt w wset) (s.modifyPort p f) = (vs.foldl (State.preempt w wset) s).modifyPort p f := by
  induction vs generalizing s with
  | nil => rfl
  | cons v vs ih => rw [List.foldl_cons, List.foldl_cons, preempt_modifyPort, ih]

theorem holdUnlessBreak_modifyPort (s : State) (p : HostNo) (f : PortRecord → PortRecord) (own : Option SlotNo)
    (v : SlotNo) (set : Word) :
    (s.modifyPort p f).holdUnlessBreak own v set = (s.holdUnlessBreak own v set).modifyPort p f := by
  unfold State.holdUnlessBreak
  rw [holdLease_modifyPort]
  have h : (s.modifyPort p f).anyBreak set = s.anyBreak set := rfl
  rw [h]
  split <;> rfl

theorem grant_modifyPort (s : State) (p : HostNo) (f : PortRecord → PortRecord) (own : Option SlotNo) (w : SlotNo) :
    (s.modifyPort p f).grant own w = (s.grant own w).modifyPort p f := by
  unfold State.grant
  rw [modifyPort_lease]
  split
  · rfl
  · rename_i l _
    have hv : (s.modifyPort p f).victims l.set = s.victims l.set := rfl
    rw [hv, preempts_modifyPort, ← holdUnlessBreak_modifyPort]
    rfl

theorem passFrom_modifyPort (p : HostNo) (f : PortRecord → PortRecord) (own : Option SlotNo) (fuel i : Nat) (s : State) :
    State.passFrom own fuel i (s.modifyPort p f) = (State.passFrom own fuel i s).modifyPort p f := by
  induction fuel generalizing i s with
  | zero => rfl
  | succ fuel ih =>
    unfold State.passFrom
    rw [modifyPort_waitQueue]
    split
    · rfl
    · have hg : ∀ ahead w, (s.modifyPort p f).grantable ahead w = s.grantable ahead w := fun _ _ => rfl
      rw [hg, grant_modifyPort, ih, ih]
      split <;> rfl

/-- A pass neither reads nor changes a port. -/
theorem pass_modifyPort (s : State) (p : HostNo) (f : PortRecord → PortRecord) (own : Option SlotNo) :
    (s.modifyPort p f).pass own = (s.pass own).modifyPort p f :=
  passFrom_modifyPort p f own _ _ s

/-! ### The arbitration pass -/

/-- A pass of an empty queue does nothing (R50). -/
theorem pass_of_empty {s : State} (h : s.waitQueue = []) (own : Option SlotNo) : s.pass own = s := by
  simp [State.pass, State.passFrom, h]

/-- What holds before a pass and is kept by each grant of a grantable entry holds after the pass. -/
theorem pass_induct {P : State → Prop} (own : Option SlotNo)
    (hg : ∀ s i w, P s → s.waitQueue[i]? = some w → s.grantable (s.waitQueue.take i) w = true → P (s.grant own w))
    {s : State} (h : P s) : P (s.pass own) := by
  have key : ∀ fuel i s, P s → P (State.passFrom own fuel i s) := by
    intro fuel
    induction fuel with
    | zero => intro i s h; exact h
    | succ fuel ih =>
      intro i s h
      unfold State.passFrom
      split
      · exact h
      · rename_i w hw
        split
        · rename_i hgr
          exact ih _ _ (hg s i w h hw hgr)
        · exact ih _ _ h
  exact key _ _ _ h

end Sys2Proof.Machine
end

