-- ==== Sys2Proof/Laws/Leases.lean ====
section
/-! SUPPORT. What the lease-end procedure, the warning check, the hold, pre-emption, the grant and the pass can do, each said
once: their results as record updates, and the part of the state that none of them touches. -/

namespace Sys2Proof.Machine

/-! ### Their results -/

theorem modifyLease_eq_setLease {s : State} {v : SlotNo} {l : Lease} (h : s.lease? v = some l) (f : Lease → Lease) :
    s.modifyLease v f = s.setLease v (f l) := by
  apply state_ext <;> intros <;> try rfl
  rename_i u
  rw [modifyLease_slot]
  unfold State.setLease State.slot
  rw [bankModify_get]
  split
  · rename_i hu
    subst hu
    have : (s.slots.get u).lease = some l := h
    rw [this]
    rfl
  · rfl

theorem setLease_lease (s : State) (v u : SlotNo) (l : Lease) :
    (s.setLease v l).lease? u = if u = v then some l else s.lease? u := by
  unfold State.setLease State.lease? State.slot
  rw [bankModify_get]
  split <;> rfl

@[simp] theorem setLease_lease_self (s : State) (v : SlotNo) (l : Lease) : (s.setLease v l).lease? v = some l := by
  simp [setLease_lease]

@[simp] theorem setLease_gen (s : State) (v u : SlotNo) (l : Lease) :
    ((s.setLease v l).slot u).gen = (s.slot u).gen := by
  unfold State.setLease State.slot
  rw [bankModify_get]
  split <;> rfl

/-- R37 and R38 on a live lease. -/
theorem takeOut_freeSlot {s : State} {v : SlotNo} {l : Lease} (h : s.lease? v = some l) :
    (s.takeOut v).freeSlot v = s.withoutLease v l := by
  unfold State.takeOut
  rw [h]
  by_cases hw : l.state = .waiting
  · simp only [hw, if_true]
    apply state_ext <;> intros <;> try rfl
    · simp [State.withoutLease, hw, State.channel]
    · simp [State.withoutLease, hw, State.dequeue, bne]
      rfl
  · simp only [hw, if_false]
    apply state_ext <;> intros <;> try rfl
    · rename_i c
      have hc : (s.withoutLease v l).channel c = (s.mapSet l.set Channel.leave).channel c := by
        simp [State.withoutLease, hw, State.channelsLeft, State.channel, State.mapSet, State.mapChannels]
      exact hc.symm
    · simp [State.withoutLease, hw]

/-- The lease-end procedure on a live lease, with the notice of its cause (R37 to R39). -/
theorem endLease_eq {s : State} {v : SlotNo} {l : Lease} (h : s.lease? v = some l) (n : Notice) :
    s.endLease v n = (s.withoutLease v l).notify l.holder n := by
  unfold State.endLease
  rw [h, ← takeOut_freeSlot h]

/-- The warning check on a live lease (R95). -/
theorem warningCheck_eq {s : State} {v : SlotNo} {l : Lease} (h : s.lease? v = some l) :
    s.warningCheck v =
      if s.warns l.holder l.remaining ∧ l.warned = false then
        (s.setLease v { l with warned := true }).notify l.holder (.expiring (s.handle v) l.tag l.remaining)
      else s := by
  unfold State.warningCheck
  rw [h]
  simp only [State.warns, and_assoc]
  split
  · rw [modifyLease_eq_setLease h]
  · rfl

/-! ### What none of them touches -/

theorem leasesOnly_refl (s : State) : s.leasesOnly s := by
  constructor <;> first | (intro; rfl) | rfl | exact ⟨rfl, rfl, rfl, rfl, rfl, rfl⟩

theorem leasesOnly_trans {s t u : State} (h1 : s.leasesOnly t) (h2 : t.leasesOnly u) : s.leasesOnly u := by
  obtain ⟨a1, a2, a3, a4, a5, a6, a7, a8, a9, a10, a11⟩ := h1
  obtain ⟨b1, b2, b3, b4, b5, b6, b7, b8, b9, b10, b11⟩ := h2
  constructor
  · intro c; rw [b1, a1]
  · intro c; rw [b2, a2]
  · intro c; rw [b3, a3]
  · intro h; rw [b4, a4]
  · intro h; rw [b5, a5]
  · intro h; rw [b6, a6]
  · intro h; rw [b7, a7]
  · intro h; rw [b8, a8]
  · intro h; rw [b9, a9]
  · rw [b10, a10]
  · simp only [State.sameRest] at *
    obtain ⟨x1, x2, x3, x4, x5, x6⟩ := a11
    obtain ⟨y1, y2, y3, y4, y5, y6⟩ := b11
    exact ⟨y1.trans x1, y2.trans x2, y3.trans x3, y4.trans x4, y5.trans x5, y6.trans x6⟩

theorem notify_leasesOnly (s : State) (h : HostNo) (n : Notice) : s.leasesOnly (s.notify h n) := by
  constructor <;> first
    | (intro g; rw [notify_host]; split <;> simp)
    | (intro; rfl)
    | rfl
    | exact ⟨rfl, rfl, rfl, rfl, rfl, rfl⟩

theorem modifySlot_leasesOnly (s : State) (v : SlotNo) (f : Slot → Slot) : s.leasesOnly (s.modifySlot v f) := by
  constructor <;> first | (intro; rfl) | rfl | exact ⟨rfl, rfl, rfl, rfl, rfl, rfl⟩

theorem setQueue_leasesOnly (s : State) (q : List SlotNo) : s.leasesOnly (s.setQueue q) := by
  constructor <;> first | (intro; rfl) | rfl | exact ⟨rfl, rfl, rfl, rfl, rfl, rfl⟩

theorem mapSet_leasesOnly (s : State) (set : Word) (f : Channel → ChannelState) : s.leasesOnly (s.mapSet set f) := by
  constructor <;> first
    | (intro c; rw [mapSet_channel]; split <;> rfl)
    | (intro; rfl)
    | rfl
    | exact ⟨rfl, rfl, rfl, rfl, rfl, rfl⟩

theorem takeOut_leasesOnly (s : State) (v : SlotNo) : s.leasesOnly (s.takeOut v) := by
  unfold State.takeOut
  split
  · exact leasesOnly_refl s
  · split
    · exact setQueue_leasesOnly s _
    · exact mapSet_leasesOnly s _ _

theorem endLease_leasesOnly (s : State) (v : SlotNo) (n : Notice) : s.leasesOnly (s.endLease v n) := by
  unfold State.endLease
  split
  · exact leasesOnly_refl s
  · exact leasesOnly_trans (leasesOnly_trans (takeOut_leasesOnly s v) (modifySlot_leasesOnly _ _ _))
      (notify_leasesOnly _ _ _)

theorem warningCheck_leasesOnly (s : State) (v : SlotNo) : s.leasesOnly (s.warningCheck v) := by
  unfold State.warningCheck
  split
  · exact leasesOnly_refl s
  · split
    · exact leasesOnly_trans (modifySlot_leasesOnly s _ _) (notify_leasesOnly _ _ _)
    · exact leasesOnly_refl s

theorem mapIf_leasesOnly (s : State) (q : ChannelNo → Bool) (f : ChannelNo → Channel → ChannelState) :
    s.leasesOnly (s.mapChannels fun c ch => if q c then { ch with state := f c ch } else ch) := by
  constructor <;> first
    | (intro c; rw [mapChannels_channel]; split <;> rfl)
    | (intro; rfl)
    | rfl
    | exact ⟨rfl, rfl, rfl, rfl, rfl, rfl⟩

theorem holdLease_leasesOnly (s : State) (own : Option SlotNo) (v : SlotNo) : s.leasesOnly (s.holdLease own v) := by
  unfold State.holdLease
  split
  · exact leasesOnly_refl s
  · rename_i l _
    dsimp only
    refine leasesOnly_trans ?_ (warningCheck_leasesOnly _ _)
    have h1 := modifySlot_leasesOnly s v fun x => { x with lease := x.lease.map (Lease.heldRecord s.inhibit.inEffect) }
    have h2 := leasesOnly_trans h1 (mapIf_leasesOnly _ (inSet l.set)
      fun c ch => ch.hold v s.inhibit.inEffect (levelOf l.initial c))
    split
    · exact h2
    · exact leasesOnly_trans h2 (notify_leasesOnly _ _ _)

theorem holdUnlessBreak_leasesOnly (s : State) (own : Option SlotNo) (v : SlotNo) (set : Word) :
    s.leasesOnly (s.holdUnlessBreak own v set) := by
  unfold State.holdUnlessBreak
  split
  · exact leasesOnly_refl s
  · exact holdLease_leasesOnly s own v

theorem preempt_leasesOnly (s : State) (w : SlotNo) (wset : Word) (v : SlotNo) :
    s.leasesOnly (State.preempt w wset s v) := by
  unfold State.preempt
  split
  · exact leasesOnly_refl s
  · rename_i l _
    dsimp only
    have h1 := mapIf_leasesOnly s (inSet l.set) fun c ch => if inSet wset c then ch.handOver w else ch.leave
    split
    · exact leasesOnly_trans (leasesOnly_trans (leasesOnly_trans h1 (modifySlot_leasesOnly _ _ _))
        (setQueue_leasesOnly _ _)) (notify_leasesOnly _ _ _)
    · exact leasesOnly_trans (leasesOnly_trans h1 (modifySlot_leasesOnly _ _ _)) (notify_leasesOnly _ _ _)

theorem preempts_leasesOnly (w : SlotNo) (wset : Word) (vs : List SlotNo) (s : State) :
    s.leasesOnly (vs.foldl (State.preempt w wset) s) := by
  induction vs generalizing s with
  | nil => exact leasesOnly_refl s
  | cons v vs ih => exact leasesOnly_trans (preempt_leasesOnly s w wset v) (ih _)

theorem reserveSet_leasesOnly (s : State) (w : SlotNo) (set : Word) : s.leasesOnly (s.reserveSet w set) :=
  leasesOnly_trans (leasesOnly_trans (setQueue_leasesOnly s _) (modifySlot_leasesOnly _ w _))
    (mapSet_leasesOnly _ set (Channel.reserve w))

theorem grant_leasesOnly (s : State) (own : Option SlotNo) (w : SlotNo) : s.leasesOnly (s.grant own w) := by
  unfold State.grant
  split
  · exact leasesOnly_refl s
  · rename_i l _
    have h1 := preempts_leasesOnly w l.set (s.victims l.set) s
    exact leasesOnly_trans (leasesOnly_trans h1 (reserveSet_leasesOnly _ w l.set))
      (holdUnlessBreak_leasesOnly _ own w l.set)

/-- A pass touches channel states, slots, the queue and the notices alone (R50 to R58). -/
theorem pass_leasesOnly (s : State) (own : Option SlotNo) : s.leasesOnly (s.pass own) :=
  pass_induct (P := s.leasesOnly) own (fun t _ w h _ _ => leasesOnly_trans h (grant_leasesOnly t own w))
    (leasesOnly_refl s)

/-! ### The hold -/

theorem setLease_setLease (s : State) (v : SlotNo) (l l' : Lease) : (s.setLease v l).setLease v l' = s.setLease v l' := by
  apply state_ext <;> intros <;> try rfl
  rename_i u
  simp only [State.setLease, State.slot, bankModify_get]
  split <;> rfl

/-- The lead of a host decides the warning check, and no update of leases, channels or notices changes it. -/
theorem warns_of_leasesOnly {s t : State} (h : s.leasesOnly t) (g : HostNo) (n : Nat) : t.warns g n ↔ s.warns g n := by
  simp only [State.warns, h.lead]

/-- The hold of a live lease whose channels are all RESERVED (R10, R62). -/
theorem holdLease_eq {s : State} {v : SlotNo} {l : Lease} (h : s.lease? v = some l) (own : Option SlotNo)
    (hr : ∀ c, inSet l.set c = true → ∃ u, (s.channel c).state = .reserved u) :
    s.holdLease own v = s.heldBy own v l := by
  let r := Lease.heldRecord s.inhibit.inEffect l
  let held : State := { s.setLease v r with
    channels := bank fun c => if inSet l.set c then
        { s.channel c with state := if s.inhibit.inEffect then .rearm v else .driven v (levelOf l.initial c) }
      else s.channel c }
  have hheld : ((s.modifyLease v (Lease.heldRecord s.inhibit.inEffect)).mapChannels fun c ch =>
      if inSet l.set c then { ch with state := ch.hold v s.inhibit.inEffect (levelOf l.initial c) } else ch) = held := by
    rw [modifyLease_eq_setLease h]
    apply state_ext <;> intros <;> try rfl
    rename_i c
    rw [mapChannels_channel]
    show _ = held.channels.get c
    simp only [held, bank_get]
    split
    · rename_i hc
      obtain ⟨u, hu⟩ := hr c hc
      have hu' : ((s.setLease v r).channel c).state = .reserved u := hu
      simp only [Channel.hold]
      rw [hu']
      rfl
    · rfl
  let t := if own = some v then held else held.notify l.holder (.granted (s.handle v) l.tag)
  have ht : s.holdLease own v = t.warningCheck v := by
    unfold State.holdLease
    rw [h]
    dsimp only
    rw [hheld]
  have hl : t.lease? v = some r := by
    have : t.slots = (s.setLease v r).slots := by simp only [t]; split <;> rfl
    have h2 := setLease_lease_self s v r
    unfold State.lease? State.slot at *
    rw [this]
    exact h2
  have hw : t.warns l.holder l.term ↔ s.warns l.holder l.term := by
    have h1 : t.warns l.holder l.term ↔ held.warns l.holder l.term := by
      simp only [t]
      split
      · rfl
      · exact warns_of_leasesOnly (notify_leasesOnly held _ _) _ _
    exact h1
  rw [ht, warningCheck_eq hl]
  have hc : (t.warns r.holder r.remaining ∧ r.warned = false) ↔ s.warns l.holder l.term := by
    rw [← hw]
    simp [r, Lease.heldRecord]
  have hhd : t.handle v = s.handle v := by
    have : t.slots = (s.setLease v r).slots := by simp only [t]; split <;> rfl
    have h2 := setLease_gen s v v r
    unfold State.handle State.slot at *
    rw [this, h2]
  rw [hhd]
  unfold State.heldBy
  dsimp only
  by_cases hs : s.warns l.holder l.term
  · rw [if_pos (hc.2 hs), if_pos hs, decide_eq_true hs]
    have hslots : ((s.setLease v r).setLease v { r with warned := true }).slots =
        (s.setLease v { r with warned := true }).slots := by rw [setLease_setLease]
    by_cases ho : own = some v
    · rw [show t = held from if_pos ho, if_pos ho]
      exact congrArg (fun q => ({ held.notify l.holder (.expiring (s.handle v) l.tag l.term) with slots := q } : State))
        hslots
    · rw [show t = held.notify l.holder (.granted (s.handle v) l.tag) from if_neg ho, if_neg ho]
      exact congrArg (fun q => ({ (held.notify l.holder (.granted (s.handle v) l.tag)).notify l.holder
        (.expiring (s.handle v) l.tag l.term) with slots := q } : State)) hslots
  · rw [if_neg (fun h => hs (hc.1 h)), if_neg hs, decide_eq_false hs]
    by_cases ho : own = some v
    · rw [show t = held from if_pos ho, if_pos ho]
      rfl
    · rw [show t = held.notify l.holder (.granted (s.handle v) l.tag) from if_neg ho, if_neg ho]
      rfl
end Sys2Proof.Machine
end

