-- ==== Sys2Proof/Tests/Slice0.lean ====
section
/-! SUPPORT. Small tests against the manual's examples and tables, the smoke test of WellFormed, and for each statement of
Certificates/Slice0/Obligations.lean that has hypotheses a state and operands that meet them (`witness_…`). -/

namespace Sys2Proof.Tests

-- One theorem after the other: each kernel check waits for the one before it, and a thread apiece is too many.
set_option Elab.async false

open Sys2Proof.Machine

/-! ### Helpers -/

/-- The state after row `i`. -/
def after (i : Instr) (s : State) : State :=
  match exec i s with
  | .next t => t
  | .fault _ => s
  | .refused _ => s

/-- A lease of host `h` on `set`: priority 4, term 100, max wait 500, every initial level ON. -/
def lease (h : HostNo) (x : LeaseState) (set : Word) : Lease :=
  { holder := h, state := x, set := set, priority := 4, preemptible := false, requeue := false, term := 100,
    remaining := if x.runsTerm then 100 else 0, maxWait := 500, waitRemaining := if x = .waiting then 500 else 0,
    initial := set, commanded := if x.runsTerm then some set else none, tag := 0x0102, warned := false, stepMs := 0 }

/-- The part with these leases and these channels, the others as device reset leaves them. -/
def part (leases : List (SlotNo × Lease)) (channels : List (ChannelNo × Channel)) (queue : List SlotNo) : State :=
  { State.reset with
    slots := bank fun v => { gen := 0, lease := leases.lookup v }
    channels := bank fun c => (channels.lookup c).getD Channel.reset
    waitQueue := queue }

/-- A channel in state `x`, otherwise as after device reset. -/
def chan (x : ChannelState) : Channel := { Channel.reset with state := x }

/-- A channel in state `x` with break time 50 units. -/
def slow (x : ChannelState) : Channel := { chan x with config := { ChannelConfig.reset with breakTime := 50 } }

/-- A channel in state `x` under supervision, steady, with policy `pol` and fault record `f`. -/
def watched (x : ChannelState) (pol : FaultPolicy) (f : FaultRecord) : Channel :=
  { state := x, settle := 100, fault := f,
    config := { ChannelConfig.reset with feedback := true, policy := pol } }

/-- A SUSPECT record of `n` disagreements. -/
def suspect (n : Nat) (k : FaultKind) : FaultRecord := { state := .suspect, count := n, kind := k, present := false }

/-- A FAULTED record. -/
def faulted (present : Bool) : FaultRecord := { state := .faulted, count := 3, kind := .stuckOn, present := present }

/-- Host 1 holds channel 4, DRIVEN ON with break time 50, in slot 0. -/
def heldPart : State := part [(0, lease 1 .held 0x0010)] [(4, slow (.driven 0 true))] []

/-- Host 1 holds channels 4 and 5 in slot 0. -/
def pairPart : State :=
  part [(0, lease 1 .held 0x0030)] [(4, slow (.driven 0 true)), (5, chan (.rearm 0))] []

/-- Host 1 waits for channel 4 in slot 1, behind the lease of host 0 in slot 0 that holds it. -/
def waitingPart : State :=
  part [(0, lease 0 .held 0x0010), (1, lease 1 .waiting 0x0030)] [(4, slow (.driven 0 true))] [1]

/-- Host 1's lease in slot 0 is GRANTING on channels 4 and 5: 4 in the last unit of its break, 5 RESERVED. -/
def grantingPart : State :=
  part [(0, lease 1 .granting 0x0030)] [(4, slow (.brk (some 0) 1 2)), (5, chan (.reserved 0))] []

/-- Inhibit is in effect, and host 1's lease in slot 0 is SUSPENDED on channel 4. -/
def suspendedPart : State :=
  { part [(0, lease 1 .suspended 0x0030)] [(4, slow (.rearm 0)), (5, chan (.rearm 0))] [] with
    inhibit := { inEffect := true, timer := 20, line := true } }

/-- The part in device reset. -/
def resettingPart (supplyMs : Nat) : State :=
  { heldPart with resetControl := { active := true, line := true, supplyMs := supplyMs } }

/-- The part whose select line A has stood low since before device reset completed. -/
def heldLowPart : State := { State.reset with ports := bank fun p => PortRecord.reset (p == 0) }

/-- The part with a lease of host 1 in slot 0 whose running step is complete and its last. -/
def lastStep (x : LeaseState) : State :=
  part [(0, { lease 1 x 0x0010 with remaining := if x = .waiting then 0 else 1,
                                    waitRemaining := if x = .waiting then 1 else 0, stepMs := 10 })]
    [(4, if x = .waiting then chan .free else slow (.driven 0 true))] (if x = .waiting then [0] else [])

/-! ### WellFormed -/

/-- Every command with a clock count that does not fit it, and FRAME_ERROR with an ignored and with a valid frame, are
refused. -/
theorem test_wellFormed_refuses :
    [Instr.noop 0 8, .request 0 104 0 0 0 0 0 0 0, .renew 0 48 0 0 0 0, .drive 0 64 0 0 0 0 0, .shed 0 48 0 0 0 0,
      .alter 0 40 0 0 0 0, .release 0 32 0 0 0, .releaseAll 0 16 0, .queryLease 0 32 0 0 0, .listLeases 0 24 0 0,
      .queryChannel 0 24 0 0 0, .queryStatus 0 16 0, .readNotice 0 16 0, .clearFault 0 24 0 0, .setNotices 0 40 0 0 0,
      .setChannel 0 56 0 0 0 0 0 0, .setHost 0 48 0 0 0 0 0, .readHost 0 24 0 0, .revoke 0 32 0 0 0, .tableReset 0 16 0,
      .noop 0 0, .noop 0 17, .noop 0 520, .frameError 0 [], .frameError 0 (frameBits 0x00 [] [])].all
      (fun i => !i.wellFormed) = true := by decide +kernel

theorem test_wellFormed_accepts :
    [Instr.noop 0 16, .noop 0 512, .request 0 112 0 0 0 0 0 0 0, .frameError 0 [true], .expiry 3].all
      Instr.wellFormed = true := by decide +kernel

/-! ### Frames -/

/-- The two check bytes of the example of section 10.2. -/
theorem test_check_bytes : crc8 [0x00] = 0xF3 ∧ crc8 [0x23, 0x01] = 0x41 := by decide +kernel

/-- The frame of that example is the command it stands for. -/
theorem test_frame_queryStatus :
    rowOfFrame 1 0 ([0x23, 0x01, 0x41].flatMap bitsOfByte) = some (.queryStatus 1 24 0x01) := by decide +kernel

/-- The REQUEST of section 11.7, written out from its table with filler. -/
theorem test_frame_request :
    rowOfFrame 1 0 (frameBits 0x10 [0x21, 0x00, 0x30, 0x00, 0x10, 0xC0, 0x00, 0xC8, 0x00, 0x00, 0x01, 0x02] [0x55]) =
      some (.request 1 120 0x21 0x0030 0x0010 0xC0 200 0 0x0102) := by decide +kernel

/-- The first failing check of R167 decides the kind. -/
theorem test_validate_kinds :
    validate [true] = .failed .partialByte ∧ validate ([0x01, 0x00].flatMap bitsOfByte) = .failed .unknownOpcode ∧
    validate ([0x00].flatMap bitsOfByte) = .failed .short ∧ validate ([0x00, 0xF2].flatMap bitsOfByte) = .failed .check ∧
    validate ((0x00 :: 0xF3 :: List.replicate 63 0).flatMap bitsOfByte) = .failed .long ∧
    validate [] = .ignored := by decide +kernel

/-- A NOOP of 4 bytes leaves an unread reply unread, one of 64 bytes reads it (section 10.7). -/
theorem test_noop_unread :
    let s := heldPart.replied 1 0x11 .ok [3, 0, 0]
    (((after (.noop 1 32) s).port 1).unread, ((after (.noop 1 512) s).port 1).unread) = (true, false) := by decide +kernel

theorem test_frameStart_status :
    ((after (.frameStart 1) (heldPart.replied 1 0x11 .ok [])).port 1).frame =
      some { status := 0x90, record := [2, 0x11, 0x01] } := by decide +kernel

theorem test_frameError_check :
    (after (.frameError 1 ([0x00, 0xF2].flatMap bitsOfByte)) State.reset).port 1 =
      { PortRecord.reset false with frameError := true, errorKind := .check } := by decide +kernel

/-! ### Leases -/

/-- The reply of section 11.7: slot 2, generation 7, is the lowest FREE slot. -/
theorem test_request_example :
    let s := part [(0, lease 0 .held 0x0001), (1, lease 0 .held 0x0002)] [(0, chan (.driven 0 true)),
      (1, chan (.driven 1 true))] []
    let s := s.modifySlot 2 fun x => { x with gen := 7 }
    let t := after (.request 1 112 0x21 0x0030 0x0010 0xC0 200 0 0x0102) s
    ((t.port 1).reply.record, (t.channel 4).output, (t.channel 5).state) =
      ([0x05, 0x21, 0x02, 0x02, 0x07, 0x00], true, .driven 2 false) := by decide +kernel

/-- BUSY with a stale handle, had the channel been owned at equal priority (section 11.7). -/
theorem test_request_busy :
    let t := after (.request 1 112 0x21 0x0030 0x0010 0x80 200 0 0x0102) heldPart
    ((t.port 1).reply.record, (t.slot 1).gen, t.waitQueue) = ([0x05, 0x21, 0x10, 0x01, 0x00, 0x00], 1, []) := by
  decide +kernel

/-- RENEW first, of section 12.4. -/
theorem test_renew_first :
    let s := part [(5, { lease 0 .held 0x1000 with remaining := 1, warned := true, stepMs := 10 })]
      [(12, chan (.driven 5 true))] []
    let t := after (.expiry 5) (after (.renew 0 56 1 5 0 0) s)
    ((t.lease? 5).map Lease.remaining, (t.port 0).reply.fields) = (some 100, [0, 100, 0, 100]) := by decide +kernel

theorem test_drive_rearm :
    let t := after (.drive 1 72 1 0 0 0x0020 0x0020) pairPart
    ((t.channel 5).state, (t.channel 5).settle, (t.port 1).reply.fields) = (.driven 0 true, 0, [3, 0, 0]) := by
  decide +kernel

theorem test_drive_inhibited :
    (after (.drive 1 72 1 0 0 0x0020 0x0020) suspendedPart) = suspendedPart.replied 1 1 .inhibited [] := by decide +kernel

theorem test_shed_breaks :
    let t := after (.shed 1 56 1 0 0 0x0010) pairPart
    ((t.channel 4).state, (t.lease? 0).map Lease.set) = (.brk none 50 0, some 0x0020) := by decide +kernel

theorem test_shed_holds :
    let t := after (.shed 1 56 1 0 0 0x0010) grantingPart
    ((t.channel 5).state, (t.port 1).reply.fields) = (.driven 0 true, [0, 0x20, 3]) := by decide +kernel

/-- Slot 3 altered from priority 4 to priority 6, of section 3.1. -/
theorem test_alter_moves :
    let w (pr : Priority) : Lease := { lease 1 .waiting 0x0010 with priority := pr }
    let s := part [(0, { lease 0 .held 0x0010 with priority := 7 }), (7, w 6), (9, w 4), (3, w 4), (1, w 4)]
      [(4, chan (.driven 0 true))] [7, 9, 3, 1]
    (after (.alter 1 48 1 3 0 0xC0) s).waitQueue = [7, 3, 9, 1] := by decide +kernel

/-- The channels and slots at the end of the pass of section 3.7. -/
theorem test_release_pass :
    let l (h : HostNo) (x : LeaseState) (pr : Priority) (pre req : Bool) (set : Word) : Lease :=
      { lease h x set with priority := pr, preemptible := pre, requeue := req }
    let s := part
      [(0, l 0 .held 4 false false 0x000C), (1, l 3 .held 2 true false 0x00C0), (2, l 1 .waiting 5 true false 0x0014),
        (3, l 2 .waiting 5 true true 0x0030), (4, l 2 .waiting 3 true false 0x0088), (5, l 3 .waiting 1 false false 0x0040)]
      [(2, { chan (.driven 0 true) with config := { ChannelConfig.reset with breakTime := 25 } }), (3, chan (.driven 0 true)),
        (6, chan (.driven 1 true)), (7, chan (.driven 1 true))] [2, 3, 4, 5]
    let t := after (.release 0 40 1 0 0) s
    (t.waitQueue, (t.slot 0).gen, (t.slot 1).gen) = ([3], 1, 1) ∧
      ((t.channel 2).state, (t.channel 3).state, (t.channel 6).state) =
        (.brk (some 2) 25 0, .driven 4 true, .driven 5 true) ∧
      (t.host 3).notices = [.powerOn, .preempted ⟨1, 0⟩ 0x0102 0x0080, .granted ⟨5, 0⟩ 0x0102] := by decide +kernel

theorem test_releaseAll_count :
    let t := after (.releaseAll 1 24 1) waitingPart
    ((t.port 1).reply.fields, t.waitQueue, (t.lease? 0).isSome) = ([1], [], true) := by decide +kernel

theorem test_revoke_notice :
    let t := after (.revoke 0 40 1 0 0) heldPart
    ((t.host 1).notices, (t.port 0).reply.fields) = ([.powerOn, .revokedAdmin ⟨0, 0⟩ 0x0102 0], [1]) := by decide +kernel

/-! ### Queries, notices and configuration -/

theorem test_queryLease_length :
    let r := ((after (.queryLease 2 40 1 0 0) heldPart).port 2).reply
    (r.length, r.fields.take 7) = (27, [0, 0, 1, 3, 0x00, 0x10, 0x80]) := by decide +kernel

theorem test_listLeases :
    ((after (.listLeases 1 32 1 0) pairPart).port 1).reply.fields =
      [1, 0, 1, 0x00, 0x30, 0x00, 0x00, 0x00, 0x20, 0, 0, 3] := by decide +kernel

theorem test_queryChannel :
    ((after (.queryChannel 3 32 1 4 0x0010) heldPart).port 3).reply.fields =
      [4, 3, 0, 0, 0x1F, 0, 0, 0x20, 50, 20, 3, 0, 0, 0] := by decide +kernel

theorem test_queryStatus :
    ((after (.queryStatus 1 24 1) heldPart).port 1).reply.fields =
      [0xB4, 0x01, 0, 23, 0, 0x00, 0x10, 0, 0, 0, 0, 1] := by decide +kernel

theorem test_readHost :
    ((after (.readHost 1 32 1 0) heldPart).port 1).reply.fields = [0, 6, 7, 3, 0, 50, 0x3F, 0xF0] := by decide +kernel

theorem test_readNotice :
    let t := after (.readNotice 2 24 1) State.reset
    ((t.port 2).reply.fields, (t.host 2).notices) = (0x01 :: List.replicate 13 0, []) := by decide +kernel

theorem test_setNotices_reserved :
    (after (.setNotices 2 48 1 0x0008 5) State.reset) = State.reset.replied 2 1 .badValue [] := by decide +kernel

theorem test_setHost_lastAuthority :
    ((after (.setHost 0 56 1 0 6 7 0) State.reset).port 0).reply.result = .lastAuthority := by decide +kernel

theorem test_setChannel_fallback :
    let t := after (.setChannel 0 64 1 4 0xE8 50 20 3) State.reset
    ((t.channel 4).output, (t.port 0).reply.fields) = (true, [4, 0, 0xE8, 50, 20, 3]) := by decide +kernel

theorem test_clearFault_present :
    let s (present : Bool) := part [] [(4, watched .lockedOut .latchOff (faulted present))] []
    (((after (.clearFault 0 32 1 4) (s true)).port 0).reply.result, ((after (.clearFault 0 32 1 4) (s false)).channel 4).state)
      = (.stillPresent, .free) := by decide +kernel

theorem test_tableReset :
    let t := after (.tableReset 0 24 1) waitingPart
    ((t.channel 4).state, (t.slot 1).gen, (t.slot 2).gen, (t.host 3).notices, (t.port 0).reply.fields) =
      (.brk none 50 0, 1, 0, [.tableReset], [2]) := by decide +kernel

/-! ### Timed events, supervision, inhibit and reset -/

/-- Remaining falls to the lead: EXPIRING once (section 5.3). -/
theorem test_termStep_warns :
    let s := part [(6, { lease 2 .held 0x0010 with remaining := 51, stepMs := 10 })] [(4, chan (.driven 6 true))] []
    ((after (.termStep 6) s).host 2).notices = [.powerOn, .expiring ⟨6, 0⟩ 0x0102 50] := by decide +kernel

theorem test_expiry_ends :
    let t := after (.expiry 0) (lastStep .held)
    ((t.slot 0).gen, (t.channel 4).state, (t.host 1).notices) =
      (1, .brk none 50 0, [.powerOn, .expired ⟨0, 0⟩ 0x0102]) := by decide +kernel

theorem test_waitStep_counts :
    let s := part [(1, { lease 1 .waiting 0x0010 with stepMs := 10 })] [(4, watched .free .revoke (faulted true))] [1]
    ((after (.waitStep 1) s).lease? 1).map Lease.waitRemaining = some 499 := by decide +kernel

theorem test_waitTimeout_ends :
    let t := after (.waitTimeout 0) (lastStep .waiting)
    (t.waitQueue, (t.host 1).notices) = ([], [.powerOn, .waitTimeout ⟨0, 0⟩ 0x0102]) := by decide +kernel

theorem test_breakCountdown :
    ((after (.breakCountdown 4) (part [] [(4, slow (.brk none 40 2))] [])).channel 4).state = .brk none 39 0 := by
  decide +kernel

theorem test_breakEndReserved_holds :
    let t := after (.breakEndReserved 4) grantingPart
    ((t.channel 4).state, (t.channel 5).state, (t.host 1).notices) =
      (.driven 0 true, .driven 0 true, [.powerOn, .granted ⟨0, 0⟩ 0x0102]) := by decide +kernel

theorem test_breakEndUnreserved_frees :
    ((after (.breakEndUnreserved 4) (part [] [(4, slow (.brk none 1 2))] [])).channel 4).state = .free := by decide +kernel

theorem test_settle_stops :
    let s := part [] [(4, { chan .free with settle := 255 })] []
    (((after .settleTimerTick s).channel 4).settle, ((after .settleTimerTick s).channel 5).settle) = (255, 1) := by
  decide +kernel

/-- The confirming visit of section 12.5 and its pass. -/
theorem test_sweep_revokes :
    let s := part [(4, lease 1 .held 0x00C0), (9, { lease 2 .waiting 0x0080 with priority := 2, initial := 0 })]
      [(6, { watched (.driven 4 true) .revoke (suspect 2 .stuckOff) with
              config := { ChannelConfig.reset with feedback := true, policy := .revoke, breakTime := 25 } }),
        (7, chan (.driven 4 true))] [9]
    let t := after (.sweepVisit 0) { s with sweep := 6 }
    ((t.channel 6).state, (t.channel 6).settle, (t.channel 7).state, (t.host 1).notices, (t.host 2).notices) =
      (.brk none 25 0, 0, .driven 9 false,
        [.powerOn, .channelFault 6 .stuckOff (some (⟨4, 0⟩, 0x0102)), .revokedFault ⟨4, 0⟩ 0x0102 6 .stuckOff],
        [.powerOn, .granted ⟨9, 0⟩ 0x0102]) := by decide +kernel

/-- The first visit of section 7.10 that compares. -/
theorem test_sweep_suspects :
    let s := part [(2, lease 1 .held 0x0200)] [(9, watched (.driven 2 true) .report FaultRecord.healthy)] []
    ((after (.sweepVisit 0) { s with sweep := 9 }).channel 9).fault = suspect 1 .stuckOff := by decide +kernel

/-- The bounce of section 6.1 restarts the count. -/
theorem test_inhibit_bounce :
    (after (.inhibitLineChange true) { State.reset with inhibit := { inEffect := false, timer := 1, line := false } }).inhibit =
      { inEffect := false, timer := 0, line := true } := by decide +kernel

theorem test_assertion :
    let t := after .assertion { heldPart with inhibit := { inEffect := false, timer := 2, line := false } }
    ((t.channel 4).state, (t.lease? 0).map Lease.state, (t.host 2).notices) =
      (.rearm 0, some .suspended, [.powerOn, .inhibitOn]) := by decide +kernel

theorem test_release_of_inhibit :
    let t := after .releaseOfInhibit suspendedPart
    ((t.channel 4).state, (t.lease? 0).map Lease.state) = (.rearm 0, some .held) := by decide +kernel

theorem test_short_reset_pulse :
    (after (.deviceReset (.resetLine 999)) heldPart, ((after (.deviceReset (.resetLine 1000)) heldPart).drv 4)) =
      (heldPart, false) := by decide +kernel

theorem test_resetComplete :
    let t := after .resetComplete (resettingPart 5)
    ((t.slot 0).lease, (t.host 1).notices, t.resetControl.active) = (none, [.powerOn], false) := by decide +kernel

/-- The first status byte after device reset has NOTIFY_ACTIVE alone (R175); the record of length 2 with result NONE follows,
then its check byte, then zeros, most significant bit first (R163, R170). -/
theorem test_sdo_after_reset :
    let t := after (.frameStart 2) State.reset
    State.reset.sdo 2 0 = none ∧ (List.range 8).map (t.sdo 2) = (bitsOfByte 0x80).map some ∧
      (List.range 8).map (fun k => t.sdo 2 (8 + k)) = (bitsOfByte 0x02).map some ∧ t.sdo 2 40 = some false ∧
      t.sdo 1 0 = none := by decide +kernel

/-! ### Witnesses of the statements' hypotheses -/

/-- An idle part, running and in device reset, at 4 and at 3 ms. -/
theorem witness_IdleMillisecond :
    State.reset.pending = [] ∧ State.reset.resetControl.active = false ∧ (resettingPart 4).pending = [] ∧
      (resettingPart 4).resetControl.active = true ∧ (resettingPart 3).resetControl.supplyMs = 3 := by decide +kernel

/-- A command with no filler and one that fills its 64 bytes. -/
theorem witness_FrameRoundTrip :
    (Instr.queryChannel 2 32 1 15 7).frame? = some (2, 32) ∧
      (Instr.queryChannel 2 32 1 15 7).opcodeAndPayload = some (0x22, [1, 15]) ∧
      (Instr.queryChannel 2 32 1 15 7).fbLines 7 = 7 ∧ 32 = 8 * (2 + 2 + 0) ∧
      (Instr.noop 0 512).frame? = some (0, 512) ∧ (Instr.noop 0 512).opcodeAndPayload = some (0x00, []) ∧
      (Instr.noop 0 512).fbLines 0 = 0 ∧ 512 = 8 * (0 + 2 + (List.replicate 62 (0 : Byte)).length) := by decide +kernel

theorem witness_FrameValidation : [true].length % 8 ≠ 0 := by decide +kernel

/-- A frame that fails, one without a clock and a valid one, on a port that listens. -/
theorem witness_FrameErrorRow :
    State.reset.listens 3 = true ∧ validate [true] = .failed .partialByte ∧ validate [] = .ignored ∧
      validate (frameBits 0x24 [9] []) = .valid 0x24 [9] := by decide +kernel

/-- Misfits of each kind: no clock, part of a byte, short, long. -/
theorem witness_MisfitIsFrameError :
    [0, 17, 8, 520].all (fun n => (Instr.noop 1 n).frame? == some (1, n) && !(Instr.noop 1 n).wellFormed) = true ∧
      heldPart.listens 1 = true := by decide +kernel

/-- A part in device reset; and one whose select line A has been low since before its completion. -/
theorem witness_NothingTakenInReset :
    (resettingPart 5).resetControl.active = true ∧ (∀ cause, Instr.assertion ≠ .deviceReset cause) ∧
      Instr.assertion ≠ .resetComplete ∧ (Instr.noop 0 16).portOf = some 0 ∧ Instr.noop 0 16 ≠ .frameStart 0 ∧
      heldLowPart.listens 0 = false :=
  ⟨by decide +kernel, fun _ => by simp, by decide, by decide, by decide, by decide +kernel⟩

theorem witness_NoopKeepsReply : State.reset.listens 0 = true ∧ clocksFit 0 16 = true ∧ clocksFit 0 512 = true := by
  decide +kernel

/-- A line that is low, one that falls in device reset, and one that falls with the part running. -/
theorem witness_FrameStartPresents :
    (heldLowPart.port 0).selLow = true ∧ ((resettingPart 0).port 0).selLow = false ∧
      (resettingPart 0).resetControl.active = true ∧ (State.reset.port 0).selLow = false ∧
      State.reset.resetControl.active = false := by decide +kernel

/-- A REQUEST that each check refuses first, at the least value it refuses. -/
theorem witness_RequestRefused :
    State.reset.listens 2 = true ∧ clocksFit 12 112 = true ∧
      State.reset.requestCheck 2 1 0 0 0 = some .badValue ∧ State.reset.requestCheck 2 1 0 6001 0 = some .badValue ∧
      State.reset.requestCheck 2 1 0 1 6001 = some .badValue ∧ State.reset.requestCheck 2 1 1 1 0 = some .badValue ∧
      State.reset.requestCheck 2 0 0 1 0 = some .badSet ∧
      (part [] [(0, { chan .free with config := { ChannelConfig.reset with leasable := false } })] []).requestCheck 2 1 0 1
        0 = some .badSet ∧
      (State.reset.modifyHost 2 fun r => { r with ceiling := 3 }).requestCheck 2 1 0x80 1 0 = some .ceiling ∧
      (State.reset.modifyHost 2 fun r => { r with quota := 0 }).requestCheck 2 1 0 1 0 = some .quota ∧
      ({ State.reset with slots := bank fun _ => { gen := 0, lease := some (lease 1 .waiting 1) } } : State).requestCheck 2
        1 0 1 0 = some .tableFull := by decide +kernel

/-- An admitted REQUEST with each of the four outcomes: GRANTED, GRANTING, QUEUED and BUSY. -/
theorem witness_RequestAdmitted :
    let outcome (s : State) (maxWait : Word) (v : SlotNo) : Option LeaseState :=
      let l := requestRecord 2 0x0030 0x0030 0 6000 maxWait 0
      let u := s.setLease v l
      ((({ u with waitQueue := u.joined s.waitQueue v l.priority } : State).pass (some v)).lease? v).map Lease.state
    let brk := part [] [(4, slow (.brk none 7 0))] []
    State.reset.listens 2 = true ∧ heldPart.listens 2 = true ∧ clocksFit 12 512 = true ∧
      State.reset.requestCheck 2 0x0030 0 6000 6000 = none ∧ heldPart.requestCheck 2 0x0030 0 6000 0 = none ∧
      brk.requestCheck 2 0x0030 0 6000 0 = none ∧ brk.listens 2 = true ∧
      State.reset.isLowestFree 0 ∧ brk.isLowestFree 0 ∧ heldPart.isLowestFree 1 ∧
      outcome State.reset 6000 0 = some .held ∧ outcome brk 0 0 = some .granting ∧
      outcome heldPart 6000 1 = some .waiting ∧ outcome heldPart 0 1 = some .waiting := by decide +kernel

theorem heldPart_tableLaw : heldPart.tableLaw := by decide +kernel

theorem waitingPart_tableLaw : waitingPart.tableLaw := by decide +kernel

theorem grantingPart_tableLaw : grantingPart.tableLaw := by decide +kernel

theorem pairPart_tableLaw : pairPart.tableLaw := by decide +kernel

theorem witness_RequestOutlivesPass : waitingPart.tableLaw ∧ waitingPart.lease? 2 = none :=
  ⟨waitingPart_tableLaw, by decide +kernel⟩

/-- Channels all FREE, with and without inhibit, and one of them in an unreserved BREAK. -/
theorem witness_RequestGrantedAtOnce :
    let brk := part [] [(4, slow (.brk none 7 0))] []
    let inhibited : State := { State.reset with inhibit := { inEffect := true, timer := 0, line := false } }
    (State.reset.listens 2 = true ∧ clocksFit 12 112 = true ∧ State.reset.requestCheck 2 0x0030 0 1 0 = none ∧
      State.reset.isLowestFree 0 ∧ State.reset.waitQueue = [] ∧
      (∀ c, inSet 0x0030 c = true → ¬((State.reset.channel c).fault.state = .faulted ∧
        (State.reset.channel c).config.policy = .revoke)) ∧
      ∀ c, inSet 0x0030 c = true → (State.reset.channel c).state = .free) ∧
    (inhibited.listens 2 = true ∧ inhibited.requestCheck 2 0x0030 0 1 0 = none) ∧
    brk.listens 2 = true ∧ brk.requestCheck 2 0x0030 0 1 0 = none ∧ brk.isLowestFree 0 ∧ brk.waitQueue = [] ∧
      (∀ c, inSet 0x0030 c = true → ¬((brk.channel c).fault.state = .faulted ∧
        (brk.channel c).config.policy = .revoke)) ∧
      (∀ c, inSet 0x0030 c = true → ((brk.channel c).state == .free || (brk.channel c).state.isBreak &&
        (brk.channel c).state.link == none) = true) ∧
      ∃ c, inSet 0x0030 c = true ∧ (brk.channel c).state.isBreak = true := by decide +kernel

theorem settled_of_empty {s : State} (h : s.waitQueue = []) : s.settled := by
  intro front w back hq
  rw [h] at hq
  simp at hq

theorem settled_of_one {s : State} {u : SlotNo} (h : s.waitQueue = [u]) (hg : s.grantable [] u = false) : s.settled := by
  intro front w back hq
  rw [h] at hq
  cases front with
  | nil =>
    simp only [List.nil_append, List.cons.injEq] at hq
    obtain ⟨rfl, _⟩ := hq
    exact hg
  | cons a as => simp at hq

/-- A REQUEST that a channel's lease keeps waiting, and one that a lease ahead of it does. -/
theorem witness_RequestKeptWaiting :
    (heldPart.tableLaw ∧ waitingPart.tableLaw) ∧
    (heldPart.listens 2 = true ∧ clocksFit 12 112 = true ∧ heldPart.requestCheck 2 0x0010 0x80 1 0 = none ∧
      heldPart.isLowestFree 1 ∧ (heldPart.channel 4).state.link = some 0 ∧
      heldPart.lease? 0 = some (lease 1 .held 0x0010) ∧ (lease 1 .held 0x0010).preemptible = false) ∧
    (waitingPart.listens 2 = true ∧ waitingPart.requestCheck 2 0x0020 0x80 1 5 = none ∧ waitingPart.isLowestFree 2 ∧
      1 ∈ waitingPart.waitQueue ∧ waitingPart.lease? 1 = some (lease 1 .waiting 0x0030) ∧
      overlaps 0x0030 0x0020 = true) :=
  ⟨⟨heldPart_tableLaw, waitingPart_tableLaw⟩, by decide +kernel⟩

theorem witness_RequestKeptWaiting_settled : heldPart.settled ∧ waitingPart.settled :=
  ⟨settled_of_empty (by decide +kernel), settled_of_one (u := 1) (by decide +kernel) (by decide +kernel)⟩

/-- Stale handles: a slot number above 23, a FREE slot, another generation; a handle of another host's lease; no CONFIG. -/
theorem witness_HandleChecked :
    heldPart.listens 1 = true ∧ (∀ v l, ¬ heldPart.names 24 0 v l) ∧ (∀ v l, ¬ heldPart.names 0 1 v l) ∧
      heldPart.names 0 0 0 (lease 1 .held 0x0010) ∧ heldPart.listens 2 = true ∧ (lease 1 .held 0x0010).holder ≠ 2 ∧
      (heldPart.host 0).config = true ∧ (heldPart.host 1).config = false := by
  refine ⟨by decide +kernel, ?_, ?_, by decide +kernel, by decide +kernel, by decide +kernel, by decide +kernel,
    by decide +kernel⟩
  · rintro v l ⟨h, -⟩
    have hv := v.isLt
    have h24 : (24 : Byte).toNat = 24 := by decide
    omega
  · rintro v l ⟨-, -, h⟩
    have : ∀ v, (heldPart.slot v).gen ≠ 1 := by decide +kernel
    exact this v h

/-- A lease of the requesting host for each own check, at the least value it refuses. -/
theorem witness_OwnChecksRefuse :
    (heldPart.listens 1 = true ∧ heldPart.names 0 0 0 (lease 1 .held 0x0010) ∧ (lease 1 .held 0x0010).holder = 1 ∧
      clocksFit 5 56 = true ∧ clocksFit 7 72 = true ∧ clocksFit 4 48 = true ∧ 6000 < (6001 : Word).toNat ∧
      subset 0x0020 0x0010 = false ∧ subset 0 0x0010 = true ∧ subset 0x0010 0x0010 = true ∧ (0x01 : Byte) &&& 0x07 ≠ 0) ∧
    (waitingPart.listens 1 = true ∧ waitingPart.names 1 0 1 (lease 1 .waiting 0x0030)) ∧
    (suspendedPart.listens 1 = true ∧ suspendedPart.names 0 0 0 (lease 1 .suspended 0x0030)) ∧
    let low := heldPart.modifyHost 1 fun r => { r with ceiling := 4 }
    low.listens 1 = true ∧ low.names 0 0 0 (lease 1 .held 0x0010) ∧
      (low.host 1).ceiling < ((0xA0 : Byte).extractLsb' 5 3).toFin ∧ (0xA0 : Byte) &&& 0x07 = 0 := by decide +kernel

/-- A HELD, a SUSPENDED and a GRANTING lease of the requesting host. -/
theorem witness_RenewRestartsTerm :
    heldPart.listens 1 = true ∧ clocksFit 5 56 = true ∧ heldPart.names 0 0 0 (lease 1 .held 0x0010) ∧
      suspendedPart.listens 1 = true ∧ suspendedPart.names 0 0 0 (lease 1 .suspended 0x0030) ∧
      grantingPart.listens 1 = true ∧ grantingPart.names 0 0 0 (lease 1 .granting 0x0030) ∧
      (6000 : Word).toNat ≤ 6000 := by decide +kernel

/-- A HELD, a WAITING and a GRANTING lease of the requesting host, with the mask empty and whole. -/
theorem witness_DriveSetsLevels :
    (pairPart.tableLaw ∧ waitingPart.tableLaw ∧ grantingPart.tableLaw) ∧
    (pairPart.listens 1 = true ∧ clocksFit 7 72 = true ∧
      pairPart.names 0 0 0 (lease 1 .held 0x0030) ∧ (lease 1 .held 0x0030).commanded = some 0x0030) ∧
    (waitingPart.listens 1 = true ∧ waitingPart.names 1 0 1 (lease 1 .waiting 0x0030)) ∧
    (grantingPart.listens 1 = true ∧ grantingPart.names 0 0 0 (lease 1 .granting 0x0030)) ∧
    subset 0 0x0030 = true ∧ subset 0x0030 0x0030 = true :=
  ⟨⟨pairPart_tableLaw, waitingPart_tableLaw, grantingPart_tableLaw⟩, by decide +kernel⟩

/-- A lease in each state that SHED and ALTER meet. -/
theorem witness_ShedShrinksLease :
    pairPart.listens 1 = true ∧ clocksFit 5 56 = true ∧ pairPart.names 0 0 0 (lease 1 .held 0x0030) ∧
      grantingPart.listens 1 = true ∧ grantingPart.names 0 0 0 (lease 1 .granting 0x0030) ∧
      waitingPart.listens 1 = true ∧ waitingPart.names 1 0 1 (lease 1 .waiting 0x0030) ∧
      suspendedPart.listens 1 = true ∧ suspendedPart.names 0 0 0 (lease 1 .suspended 0x0030) ∧
      subset 0x0010 0x0030 = true ∧ (0x0010 : Word) ≠ 0 ∧ (0x0010 : Word) ≠ 0x0030 := by decide +kernel

theorem witness_AlterWritesCompetition :
    waitingPart.listens 1 = true ∧ clocksFit 4 48 = true ∧ waitingPart.names 1 0 1 (lease 1 .waiting 0x0030) ∧
      pairPart.listens 1 = true ∧ pairPart.names 0 0 0 (lease 1 .held 0x0030) ∧ (0xF8 : Byte) &&& 0x07 = 0 ∧
      ((0xF8 : Byte).extractLsb' 5 3).toFin ≤ (waitingPart.host 1).ceiling ∧
      ((0xF8 : Byte).extractLsb' 5 3).toFin ≤ (pairPart.host 1).ceiling := by decide +kernel

theorem witness_ReleaseEndsLease :
    heldPart.listens 1 = true ∧ clocksFit 3 40 = true ∧ heldPart.names 0 0 0 (lease 1 .held 0x0010) ∧
      waitingPart.listens 1 = true ∧ waitingPart.names 1 0 1 (lease 1 .waiting 0x0030) := by decide +kernel

theorem witness_ReleaseAllEndsEveryLease : waitingPart.listens 1 = true ∧ clocksFit 1 24 = true := by decide +kernel

theorem witness_RevokeEndsLease :
    heldPart.listens 0 = true ∧ clocksFit 3 40 = true ∧ (heldPart.host 0).config = true ∧
      heldPart.names 0 0 0 (lease 1 .held 0x0010) := by decide +kernel

/-- Start slots 0, 23 and 24, and a live handle. -/
theorem witness_LeaseQueriesReport :
    heldPart.listens 2 = true ∧ clocksFit 3 40 = true ∧ heldPart.names 0 0 0 (lease 1 .held 0x0010) ∧
      clocksFit 2 32 = true ∧ 24 ≤ (24 : Byte).toNat ∧ (23 : Byte).toNat < 24 ∧ (0 : Byte).toNat < 24 := by decide +kernel

/-- Channel numbers 15 and 16. -/
theorem witness_QueryChannelReports :
    heldPart.listens 2 = true ∧ clocksFit 2 32 = true ∧ 16 ≤ (16 : Byte).toNat ∧
      (15 : Byte).toNat = (15 : ChannelNo).val := by decide +kernel

/-- Host numbers 3 and 4. -/
theorem witness_StatusQueriesReport :
    heldPart.listens 2 = true ∧ clocksFit 1 24 = true ∧ clocksFit 2 32 = true ∧ 4 ≤ (4 : Byte).toNat ∧
      (3 : Byte).toNat = (3 : HostNo).val := by decide +kernel

/-- An empty and a filled notice queue, and masks with and without a reserved bit. -/
theorem witness_NoticeCommands :
    let empty := State.reset.modifyHost 2 fun r => { r with notices := [] }
    State.reset.listens 2 = true ∧ empty.listens 2 = true ∧ (empty.host 2).notices = [] ∧
      (State.reset.host 2).notices = [.powerOn] ∧ clocksFit 1 24 = true ∧ clocksFit 4 48 = true ∧
      (0x0008 : Word) &&& 0xC00F ≠ 0 ∧ (0x3FF0 : Word) &&& 0xC00F = 0 := by decide +kernel

/-- A host with and one without the CONFIG right, and fields at the bounds of their ranges. -/
theorem witness_SetHostWritesAuthority :
    State.reset.listens 0 = true ∧ State.reset.listens 1 = true ∧ clocksFit 5 56 = true ∧
      (State.reset.host 0).config = true ∧ (State.reset.host 1).config = false ∧ 4 ≤ (4 : Byte).toNat ∧
      24 < (25 : Byte).toNat ∧ 8 ≤ (8 : Byte).toNat ∧ (3 : Byte).toNat = (3 : HostNo).val ∧ (24 : Byte).toNat ≤ 24 ∧
      (7 : Byte).toNat = (7 : Priority).val ∧ (3 : Byte).toNat < 4 := by decide +kernel

/-- A host with and one without the CONFIG right, and a configuration at the bounds of its ranges and one outside. -/
theorem witness_SetChannelWritesConfiguration :
    let bad (channel flags breakTime settleTime threshold : Byte) : Prop :=
      16 ≤ channel.toNat ∨ 250 < breakTime.toNat ∨ settleTime = 0 ∨ threshold = 0 ∨ 15 < threshold.toNat ∨
        flags.extractLsb' 3 2 = 3 ∨ flags &&& 0x07 ≠ 0
    State.reset.listens 0 = true ∧ State.reset.listens 1 = true ∧ clocksFit 6 64 = true ∧
      (State.reset.host 0).config = true ∧ (State.reset.host 1).config = false ∧ bad 15 0x18 250 255 15 ∧
      ¬ bad 15 0x30 250 255 15 ∧ (15 : Byte).toNat = (15 : ChannelNo).val ∧
      (0x30 : Byte).extractLsb' 3 2 = policyCode .latchOff := by decide +kernel

/-- Channel numbers 15 and 16. -/
theorem witness_ClearFaultFreesChannel :
    State.reset.listens 0 = true ∧ clocksFit 2 32 = true ∧ 16 ≤ (16 : Byte).toNat ∧
      (15 : Byte).toNat = (15 : ChannelNo).val := by decide +kernel

theorem witness_TableResetFreesTable :
    heldPart.listens 0 = true ∧ heldPart.listens 1 = true ∧ clocksFit 1 24 = true ∧ (heldPart.host 0).config = true ∧
      (heldPart.host 1).config = false := by decide +kernel

/-- Two steps left of a term, of a wait and of a break, the present one complete. -/
theorem witness_TimersCountDown :
    let s := part [(0, { lease 1 .held 0x0010 with remaining := 2, stepMs := 10 }),
      (1, { lease 1 .waiting 0x0010 with waitRemaining := 2, stepMs := 10 })]
      [(4, chan (.driven 0 true)), (5, slow (.brk none 2 2))] [1]
    s.resetControl.active = false ∧
      s.lease? 0 = some { lease 1 .held 0x0010 with remaining := 2, stepMs := 10 } ∧
      s.lease? 1 = some { lease 1 .waiting 0x0010 with waitRemaining := 2, stepMs := 10 } ∧
      (s.channel 5).state = .brk none 2 2 := by decide +kernel

/-- The last step of a HELD, a SUSPENDED and a WAITING lease. -/
theorem witness_LastStepEndsLease :
    let ends (x : LeaseState) : Bool := ((lastStep x).lease? 0).any fun l =>
      l.state == x && decide (10 ≤ l.stepMs) && (l.remaining == 1 || l.waitRemaining == 1)
    (lastStep .held).resetControl.active = false ∧ (ends .held && ends .suspended && ends .waiting) = true := by
  decide +kernel

/-- A GRANTING lease with two breaks running, the one of channel 4 at its end. -/
def twoBreaks : State :=
  part [(0, lease 1 .granting 0x0030)] [(4, slow (.brk (some 0) 1 2)), (5, slow (.brk (some 0) 9 0))] []

theorem twoBreaks_tableLaw : twoBreaks.tableLaw := by decide +kernel

/-- The last break of a GRANTING lease, and one beside another that still runs. -/
theorem witness_ReservedBreakEnds :
    (grantingPart.tableLaw ∧ twoBreaks.tableLaw) ∧
    (grantingPart.resetControl.active = false ∧
      (grantingPart.channel 4).state = .brk (some 0) 1 2 ∧ grantingPart.lease? 0 = some (lease 1 .granting 0x0030) ∧
      ∀ d, d ≠ 4 → inSet 0x0030 d = true → (grantingPart.channel d).state.isBreak = false) ∧
    twoBreaks.resetControl.active = false ∧ (twoBreaks.channel 4).state = .brk (some 0) 1 2 ∧
      twoBreaks.lease? 0 = some (lease 1 .granting 0x0030) ∧
      ∃ d, d ≠ 4 ∧ inSet 0x0030 d = true ∧ (twoBreaks.channel d).state.isBreak = true :=
  ⟨⟨grantingPart_tableLaw, twoBreaks_tableLaw⟩, by decide +kernel⟩

theorem witness_UnreservedBreakEnds :
    let s := part [] [(4, slow (.brk none 1 2))] []
    s.resetControl.active = false ∧ (s.channel 4).state = .brk none 1 2 := by decide +kernel

/-- A lease whose step is not complete, one with two steps left, a FREE slot, and breaks not at their end. -/
theorem witness_TimedRowsNotDue :
    heldPart.lease? 0 = some (lease 1 .held 0x0010) ∧ (lease 1 .held 0x0010).stepMs < 10 ∧
      1 < (lease 1 .held 0x0010).remaining ∧ heldPart.lease? 1 = none ∧
      (lease 1 .waiting 0x0010).stepMs < 10 ∧ 1 < (lease 1 .waiting 0x0010).waitRemaining ∧
      (heldPart.channel 4).state.link ≠ none ∧ (heldPart.channel 5).state.link = none ∧
      (heldPart.channel 4).state.isBreak = false := by decide +kernel

theorem witness_SettleTimersTick : heldPart.resetControl.active = false := by decide +kernel

/-- A visit to a channel without feedback, to one before its settle time, and to a FAULTED one. -/
theorem witness_VisitWithoutCount :
    let s := part [] [(0, watched .free .report (faulted true)), (1, { watched .free .report .healthy with settle := 19 })] []
    State.reset.resetControl.active = false ∧ (State.reset.channel State.reset.sweep).config.feedback = false ∧
      (s.channel s.sweep).config.feedback = true ∧
      (s.channel s.sweep).config.settleTime ≤ (s.channel s.sweep).settle ∧ (s.channel s.sweep).fault.state = .faulted ∧
      (s.channel 1).settle < (s.channel 1).config.settleTime := by decide +kernel

/-- A disagreement one below the threshold, and an agreement, on a SUSPECT channel. -/
theorem witness_VisitCounts :
    let s := part [] [(0, watched .free .report (suspect 1 .stuckOn))] []
    s.resetControl.active = false ∧ (s.channel s.sweep).config.feedback = true ∧
      (s.channel s.sweep).config.settleTime ≤ (s.channel s.sweep).settle ∧ (s.channel s.sweep).fault.state ≠ .faulted ∧
      levelOf 1 s.sweep ≠ (s.channel s.sweep).output ∧ 1 + 1 < (s.channel s.sweep).config.threshold ∧
      levelOf 0 s.sweep = (s.channel s.sweep).output := by decide +kernel

/-- A FREE channel one disagreement below its threshold. -/
def freeSuspect : State := part [] [(0, watched .free .latchOff (suspect 2 .stuckOn))] []

/-- A DRIVEN channel one disagreement below its threshold. -/
def drivenSuspect : State :=
  part [(3, lease 1 .held 0x0001)] [(0, watched (.driven 3 true) .revoke (suspect 2 .stuckOff))] []

theorem freeSuspect_tableLaw : freeSuspect.tableLaw := by decide +kernel

theorem drivenSuspect_tableLaw : drivenSuspect.tableLaw := by decide +kernel

/-- A disagreement at the threshold, on a channel with no lease and on one that a lease owns. -/
theorem witness_VisitConfirms :
    (freeSuspect.tableLaw ∧ drivenSuspect.tableLaw) ∧
    (freeSuspect.resetControl.active = false ∧ (freeSuspect.channel freeSuspect.sweep).config.feedback = true ∧
      (freeSuspect.channel freeSuspect.sweep).config.settleTime ≤ (freeSuspect.channel freeSuspect.sweep).settle ∧ (freeSuspect.channel freeSuspect.sweep).fault.state ≠ .faulted ∧
      levelOf 1 freeSuspect.sweep ≠ (freeSuspect.channel freeSuspect.sweep).output ∧ (freeSuspect.channel freeSuspect.sweep).config.threshold ≤ 2 + 1 ∧
      (freeSuspect.channel freeSuspect.sweep).state.link = none) ∧
    (drivenSuspect.resetControl.active = false ∧ (drivenSuspect.channel drivenSuspect.sweep).config.feedback = true ∧
      (drivenSuspect.channel drivenSuspect.sweep).config.settleTime ≤ (drivenSuspect.channel drivenSuspect.sweep).settle ∧ (drivenSuspect.channel drivenSuspect.sweep).fault.state ≠ .faulted ∧
      levelOf 0 drivenSuspect.sweep ≠ (drivenSuspect.channel drivenSuspect.sweep).output ∧ (drivenSuspect.channel drivenSuspect.sweep).config.threshold ≤ 2 + 1 ∧
      (drivenSuspect.channel drivenSuspect.sweep).state.link = some 3 ∧ drivenSuspect.lease? 3 = some (lease 1 .held 0x0001)) :=
  ⟨⟨freeSuspect_tableLaw, drivenSuspect_tableLaw⟩, by decide +kernel⟩

/-- A line low for 2 ms, and for 1 ms. -/
theorem witness_AssertionSuspends :
    let s (n : Nat) : State := { heldPart with inhibit := { inEffect := false, timer := n, line := false } }
    (s 2).resetControl.active = false ∧ (s 2).inhibit.inEffect = false ∧ (s 2).inhibit.line = false ∧
      2 ≤ (s 2).inhibit.timer ∧ (s 1).inhibit.timer < 2 := by decide +kernel

/-- A line high for 20 ms, and for 19 ms, while inhibit is in effect. -/
theorem witness_ReleaseResumes :
    let s (n : Nat) : State := { suspendedPart with inhibit := { inEffect := true, timer := n, line := true } }
    (s 20).resetControl.active = false ∧ (s 20).inhibit.inEffect = true ∧ (s 20).inhibit.line = true ∧
      20 ≤ (s 20).inhibit.timer ∧ (s 19).inhibit.timer < 20 := by decide +kernel

/-- The longest pulse that does nothing and the shortest that begins device reset, in nanoseconds. -/
theorem witness_DeviceResetBegins : 999 < 1000 ∧ 1000 ≤ 1000 ∧ State.reset.drv 0 = false ∧
    State.reset.notifyLow 0 = true := by decide +kernel

/-- Device reset in progress before and at 5 ms, and not in progress. -/
theorem witness_DeviceResetCompletes :
    State.reset.resetControl.active = false ∧ (resettingPart 4).resetControl.active = true ∧
      (resettingPart 4).resetControl.supplyMs < 5 ∧ 5 ≤ (resettingPart 5).resetControl.supplyMs := by decide +kernel

/-- A channel in each state that the tables of R12 and R13 list. -/
theorem witness_ChannelTables :
    (slow (.driven 0 true)).config.breakTime ≠ 0 ∧ (chan (.driven 0 true)).config.breakTime = 0 ∧
      (chan (.rearm 0)).state = .rearm 0 ∧ (chan (.reserved 0)).state = .reserved 0 ∧
      (chan (.brk (some 0) 1 0)).state = .brk (some 0) 1 0 ∧ (chan .lockedOut).state = .lockedOut := by decide +kernel

/-- A lease that is grantable and one that is not. -/
theorem witness_GrantableWhen :
    waitingPart.lease? 1 = some (lease 1 .waiting 0x0030) ∧ waitingPart.grantable [] 1 = false ∧
      (part [(1, lease 1 .waiting 0x0030)] [] [1]).grantable [] 1 = true := by decide +kernel

/-- Host 2 waits at priority 7 for channel 4, which a preemptible lease of host 1 drives with channel 5. -/
def preemptingPart : State :=
  part [(0, { lease 1 .held 0x0030 with preemptible := true }), (1, { lease 2 .waiting 0x0010 with priority := 7 })]
    [(4, slow (.driven 0 true)), (5, chan (.driven 0 true))] [1]

/-- The grant of a lease with a victim (R51): channel 4 is handed over in BREAK, channel 5 leaves, and the victim ends. -/
theorem test_grant_with_victim :
    let t := preemptingPart.grant none 1
    (t.channel 4).state = .brk (some 1) 50 0 ∧ (t.channel 5).state = .free ∧ t.lease? 0 = none ∧
      (t.lease? 1).map Lease.state = some .granting ∧ t.waitQueue = [] ∧
      (t.host 1).notices = [.powerOn, .preempted ⟨0, 0⟩ 0x0102 0x0010] := by decide +kernel

/-- A grantable waiting lease with a victim. -/
theorem witness_PassGrantsInOrder_grant : preemptingPart.tableLaw ∧
    preemptingPart.lease? 1 = some { lease 2 .waiting 0x0010 with priority := 7 } ∧
    preemptingPart.grantable [] 1 = true ∧ (preemptingPart.channel 4).state.link = some 0 :=
  ⟨by decide +kernel, by decide +kernel, by decide +kernel, by decide +kernel⟩

/-- A queue with a grantable front. -/
theorem witness_PassGrantsInOrder :
    let s := part [(1, lease 1 .waiting 0x0030)] [] [1]
    s.tableLaw ∧ s.waitQueue = [] ++ 1 :: [] ∧ s.grantable [] 1 = true ∧ waitingPart.tableLaw :=
  ⟨by decide +kernel, by decide +kernel, by decide +kernel, waitingPart_tableLaw⟩

/-- A victim that returns to the queue, and two that end. -/
theorem witness_VictimPreempted :
    (part [(0, { lease 1 .held 0x0010 with requeue := true })] [] []).lease? 0 =
        some { lease 1 .held 0x0010 with requeue := true } ∧
      (lease 1 .held 0x0010).maxWait ≠ 0 ∧ heldPart.lease? 0 = some (lease 1 .held 0x0010) ∧
      (lease 1 .held 0x0010).requeue = false := by decide +kernel

/-- A queue of 10 and one of 11 records, one with OVERFLOW, a mask that excludes and one that includes. -/
theorem witness_NoticeAppended :
    let q (n : Nat) : List Notice := List.replicate n .inhibitOn
    4 ≤ Notice.inhibitOn.code ∧ (0 : Word).getLsbD Notice.inhibitOn.code = false ∧
      (0x3FF0 : Word).getLsbD Notice.inhibitOn.code = true ∧ Notice.powerOn.code < 4 ∧
      .overflow ∉ q 10 ∧ (q 10).length ≤ 10 ∧ .overflow ∉ q 11 ∧ (q 11).length = 11 ∧ .overflow ∈ q 11 ++ [.overflow] := by
  decide +kernel

/-- A part with leases and a RELEASE waiting. -/
def releasingPart : State := { waitingPart with pending := [.release 0 40 1 0 0] }

/-- A part with leases and a command waiting that obeys every law and has a next state. -/
theorem witness_laws :
    let s : State := releasingPart
    s.noticesLaw ∧ s.authorityLaw ∧ s.quotaLaw ∧ s.inhibitLaw ∧ s.tableLaw ∧ s.recordLaw ∧ s.channelLaw ∧ s.revokeLaw ∧
      (match step s with
        | .next t => (t.lease? 1).map Lease.state == some .granting
        | .fault _ => false
        | .refused _ => false) = true :=
  ⟨by decide +kernel, ⟨0, by decide +kernel⟩, by decide +kernel, by decide +kernel, waitingPart_tableLaw,
    by decide +kernel, by decide +kernel, by decide +kernel, by decide +kernel⟩

theorem witness_SettledKept : releasingPart.settled :=
  settled_of_one (u := 1) (by decide +kernel) (by decide +kernel)

/-- A row that frees a slot and one that leaves it. -/
theorem witness_rows :
    Instr.release 1 40 1 0 0 ≠ .resetComplete ∧ (Instr.release 1 40 1 0 0).portOf ≠ some 2 ∧
      ((after (.release 1 40 1 0 0) heldPart).slot 0).gen = 1 ∧
      ((after (.release 2 40 1 0 0) heldPart).slot 0).gen = 0 := by decide +kernel

end Sys2Proof.Tests
end

section
/-! PROOFS. What a step can do, said once: the work of each row apart from its frame, the three ways in which a row leaves the
part, and the rule by which a property is kept by every step. -/

namespace Sys2Proof.Machine

/-! ### The work of a row -/

/-- What row `i` does to the part besides the end of its frame and the lines: the body of a command, the event of a timed
row. The rows of the ports and of the resets have none. -/
def State.perform (s : State) : Instr → State
  | .noop _ _ => s
  | .request p _ seq set levels comp term maxWait tag => s.request p seq set levels comp term maxWait tag
  | .renew p _ seq slot gen newTerm => s.onOwnLease p seq slot gen (s.renew p seq newTerm)
  | .drive p _ seq slot gen mask levels => s.onOwnLease p seq slot gen (s.drive p seq mask levels)
  | .shed p _ seq slot gen set => s.onOwnLease p seq slot gen (s.shed p seq set)
  | .alter p _ seq slot gen comp => s.onOwnLease p seq slot gen (s.alter p seq comp)
  | .release p _ seq slot gen =>
    s.onOwnLease p seq slot gen fun v _ => ((s.endQuietly v).pass none).answer p seq .ok []
  | .releaseAll p _ seq => s.releaseAll p seq
  | .queryLease p _ seq slot gen => s.queryLease p seq slot gen
  | .listLeases p _ seq start => s.listLeases p seq start
  | .queryChannel p _ seq channel _ => s.queryChannel p seq channel
  | .queryStatus p _ seq => s.answer p seq .ok (s.statusFields p)
  | .readNotice p _ seq => s.readNotice p seq
  | .clearFault p _ seq channel => s.clearFault p seq channel
  | .setNotices p _ seq mask lead => s.setNotices p seq mask lead
  | .setChannel p _ seq channel flags breakTime settleTime threshold =>
    s.setChannel p seq channel flags breakTime settleTime threshold
  | .setHost p _ seq host quota ceiling rights => s.setHost p seq host quota ceiling rights
  | .readHost p _ seq host => s.readHost p seq host
  | .revoke p _ seq slot gen => s.revoke p seq slot gen
  | .tableReset p _ seq => s.tableReset p seq
  | .frameStart _ => s
  | .frameError _ _ => s
  | .deviceReset _ => s
  | .resetComplete => s
  | .termStep v => s.termStep v
  | .expiry v => s.expiryEvent v
  | .waitStep v => s.waitStep v
  | .waitTimeout v => s.timeoutEvent v
  | .breakEndReserved c => s.breakEndReserved c
  | .breakEndUnreserved c => s.breakEndUnreserved c
  | .sweepVisit _ => s.sweepVisit
  | .inhibitLineChange _ => s
  | .assertion => if s.inhibit.assertDue then s.assertInhibit else s
  | .releaseOfInhibit => if s.inhibit.releaseDue then s.liftInhibit else s
  | .breakCountdown c => s.breakCountdown c
  | .settleTimerTick => s.settleTick

/-- The part `t` differs from `s` in nothing that the laws of the device read: ports, lines, timers of the inhibit input, the
sweep and the queue of rows may differ. -/
structure State.sameParts (s t : State) : Prop where
  channels : t.channels = s.channels
  slots : t.slots = s.slots
  waitQueue : t.waitQueue = s.waitQueue
  hosts : t.hosts = s.hosts
  inEffect : t.inhibit.inEffect = s.inhibit.inEffect

theorem sameParts_refl (s : State) : s.sameParts s := ⟨rfl, rfl, rfl, rfl, rfl⟩

theorem sameParts_trans {s t u : State} (h : s.sameParts t) (h' : t.sameParts u) : s.sameParts u :=
  ⟨h'.channels.trans h.channels, h'.slots.trans h.slots, h'.waitQueue.trans h.waitQueue, h'.hosts.trans h.hosts,
    h'.inEffect.trans h.inEffect⟩

theorem sameParts_modifyPort (s : State) (p : HostNo) (f : PortRecord → PortRecord) : s.sameParts (s.modifyPort p f) :=
  ⟨rfl, rfl, rfl, rfl, rfl⟩

theorem sameParts_channel {s t : State} (h : s.sameParts t) (c : ChannelNo) : t.channel c = s.channel c :=
  congrArg (fun v => v.get c) h.channels

theorem sameParts_slot {s t : State} (h : s.sameParts t) (v : SlotNo) : t.slot v = s.slot v :=
  congrArg (fun x => x.get v) h.slots

theorem sameParts_lease {s t : State} (h : s.sameParts t) (v : SlotNo) : t.lease? v = s.lease? v :=
  congrArg Slot.lease (sameParts_slot h v)

/-! ### What a row can do -/

/-- The part after a row that is taken outside the completion of device reset: the lines alone have moved, or the work of some
row has been done and the levels that it changed have had their due (R4, R5). -/
inductive State.goesTo (s : State) : State → Prop
  | lines {t : State} (h : s.sameParts t) : s.goesTo t
  | work {u : State} (i : Instr) (h : s.sameParts u) : s.goesTo (syncOutputs u (u.perform i))

theorem goesTo_of_sameParts {s u t : State} (h : s.sameParts u) (ht : u.goesTo t) : s.goesTo t := by
  cases ht with
  | lines h' => exact .lines (sameParts_trans h h')
  | work i h' => exact .work i (sameParts_trans h h')

theorem event_goesTo (i : Instr) (s : State) : s.goesTo (event (fun u => u.perform i) s) := by
  unfold event
  split
  · exact .lines (sameParts_refl s)
  · exact .work i (sameParts_refl s)

/-- The end of an event that moves lines alone. -/
theorem syncOutputs_of_sameParts {s t : State} (h : s.sameParts t) : syncOutputs s t = t :=
  syncOutputs_of_output fun c => by rw [sameParts_channel h]

/-- The end of a frame after which the lines alone move. -/
theorem frameEnd_goesTo_lines {s : State} (p : HostNo) (n : Nat) {after : State → State}
    (ha : ∀ u : State, u.sameParts (after u)) : s.goesTo (frameEnd p n after s) := by
  have hu := sameParts_trans (sameParts_modifyPort s p (PortRecord.endFrame n)) (ha _)
  unfold frameEnd event
  split
  · exact .lines (sameParts_modifyPort s _ _)
  · split
    · exact .lines (sameParts_refl s)
    · exact syncOutputs_of_sameParts hu ▸ .lines hu

/-- A command does its work in the event of the edge that ends its frame, or its frame moves lines alone (R167, R168). -/
theorem onFrame_goesTo (i : Instr) (p : HostNo) (n payload : Nat) (s : State) :
    s.goesTo (onFrame p n payload (fun u => u.perform i) s) := by
  by_cases h0 : n = 0
  · simp only [onFrame, h0, if_true]
    exact frameEnd_goesTo_lines p 0 sameParts_refl
  cases hl : lengthError payload n with
  | some kind =>
    simp only [onFrame, h0, hl, if_false]
    exact frameEnd_goesTo_lines p n fun u => sameParts_modifyPort u _ _
  | none =>
    cases hs : s.listens p with
    | false => exact onFrame_deaf hs n payload _ ▸ .lines (sameParts_modifyPort s _ _)
    | true =>
      have hu := sameParts_trans (sameParts_modifyPort s p (PortRecord.endFrame n))
        (sameParts_modifyPort _ p PortRecord.accept)
      rw [onFrame_fits hs (by simp [clocksFit, hl]), ← syncOutputs_of_channels (sameParts_channel hu)]
      exact .work i hu

theorem sameParts_setFb (s : State) (fb : Word) : s.sameParts (s.setFb fb) := ⟨rfl, rfl, rfl, rfl, rfl⟩

/-- The command of a valid frame moves lines alone, or does its work (R168). -/
theorem executeRow_goesTo {row : Option Instr} {s t : State} (h : executeRow row s = .next t) : s.goesTo t := by
  unfold executeRow at h
  split at h <;> cases h
  case h_1 p n => exact onFrame_goesTo (.noop p n) p n 0 s
  case h_2 p n seq set levels comp term maxWait tag =>
    exact onFrame_goesTo (.request p n seq set levels comp term maxWait tag) p n 12 s
  case h_3 p n seq slot gen newTerm => exact onFrame_goesTo (.renew p n seq slot gen newTerm) p n 5 s
  case h_4 p n seq slot gen mask levels => exact onFrame_goesTo (.drive p n seq slot gen mask levels) p n 7 s
  case h_5 p n seq slot gen set => exact onFrame_goesTo (.shed p n seq slot gen set) p n 5 s
  case h_6 p n seq slot gen comp => exact onFrame_goesTo (.alter p n seq slot gen comp) p n 4 s
  case h_7 p n seq slot gen => exact onFrame_goesTo (.release p n seq slot gen) p n 3 s
  case h_8 p n seq => exact onFrame_goesTo (.releaseAll p n seq) p n 1 s
  case h_9 p n seq slot gen => exact onFrame_goesTo (.queryLease p n seq slot gen) p n 3 s
  case h_10 p n seq start => exact onFrame_goesTo (.listLeases p n seq start) p n 2 s
  case h_11 p n seq channel fb =>
    exact goesTo_of_sameParts (sameParts_setFb s fb) (onFrame_goesTo (.queryChannel p n seq channel fb) p n 2 _)
  case h_12 p n seq => exact onFrame_goesTo (.queryStatus p n seq) p n 1 s
  case h_13 p n seq => exact onFrame_goesTo (.readNotice p n seq) p n 1 s
  case h_14 p n seq channel => exact onFrame_goesTo (.clearFault p n seq channel) p n 2 s
  case h_15 p n seq mask lead => exact onFrame_goesTo (.setNotices p n seq mask lead) p n 4 s
  case h_16 p n seq channel flags breakTime settleTime threshold =>
    exact onFrame_goesTo (.setChannel p n seq channel flags breakTime settleTime threshold) p n 6 s
  case h_17 p n seq host quota ceiling rights => exact onFrame_goesTo (.setHost p n seq host quota ceiling rights) p n 5 s
  case h_18 p n seq host => exact onFrame_goesTo (.readHost p n seq host) p n 2 s
  case h_19 p n seq slot gen => exact onFrame_goesTo (.revoke p n seq slot gen) p n 3 s
  case h_20 p n seq => exact onFrame_goesTo (.tableReset p n seq) p n 1 s
  case h_21 => exact .lines (sameParts_refl s)

theorem execFrameError_goesTo {p : HostNo} {bits : List Bool} {s t : State} (h : execFrameError p bits s = .next t) :
    s.goesTo t := by
  unfold execFrameError at h
  split at h
  · cases h
    exact frameEnd_goesTo_lines p 0 sameParts_refl
  · cases h
    exact frameEnd_goesTo_lines p _ fun u => sameParts_modifyPort u _ _
  · exact executeRow_goesTo h

theorem execFrameStart_goesTo {p : HostNo} {s t : State} (h : execFrameStart p s = .next t) : s.goesTo t := by
  unfold execFrameStart at h
  split at h
  · cases h
    exact .lines (sameParts_refl s)
  · split at h <;> cases h <;> exact .lines (sameParts_modifyPort s _ _)

theorem execDeviceReset_goesTo {cause : ResetCause} {s t : State} (h : execDeviceReset cause s = .next t) :
    s.goesTo t := by
  cases cause with
  | powerOn resetHigh =>
    cases h
    exact .lines ⟨rfl, rfl, rfl, rfl, rfl⟩
  | resetLine ns =>
    unfold execDeviceReset at h
    dsimp only at h
    split at h <;> cases h
    · exact .lines ⟨rfl, rfl, rfl, rfl, rfl⟩
    · exact .lines (sameParts_refl s)

theorem execResetComplete_cases {s t : State} (h : execResetComplete s = .next t) :
    s.goesTo t ∨ t = s.completeReset := by
  unfold execResetComplete at h
  split at h
  · cases h
    exact .inl (.lines (sameParts_refl s))
  · split at h <;> cases h
    · exact .inr rfl
    · exact .inl (.lines ⟨rfl, rfl, rfl, rfl, rfl⟩)

theorem lineTo_inEffect (level : Level) (i : InhibitInput) : (i.lineTo level).inEffect = i.inEffect := by
  unfold InhibitInput.lineTo
  split <;> rfl

/-- A command of a host is executed in the same way by its own row and out of the bits of a frame. -/
theorem exec_eq_executeRow {i : Instr} (h : i.frame? ≠ none) (s : State) : exec i s = executeRow (some i) s := by
  cases i <;> first | rfl | exact absurd rfl h

/-- A row of the table, taken: the lines alone move, or the work of a row is done, or device reset completes. -/
theorem exec_cases {i : Instr} {s t : State} (h : exec i s = .next t) : s.goesTo t ∨ t = s.completeReset := by
  cases i with
  | frameStart p => exact .inl (execFrameStart_goesTo h)
  | frameError p bits => exact .inl (execFrameError_goesTo h)
  | deviceReset cause => exact .inl (execDeviceReset_goesTo h)
  | resetComplete => exact execResetComplete_cases h
  | inhibitLineChange level =>
    cases h
    exact .inl (.lines ⟨rfl, rfl, rfl, rfl, lineTo_inEffect level s.inhibit⟩)
  | termStep v => cases h; exact .inl (event_goesTo (.termStep v) s)
  | expiry v => cases h; exact .inl (event_goesTo (.expiry v) s)
  | waitStep v => cases h; exact .inl (event_goesTo (.waitStep v) s)
  | waitTimeout v => cases h; exact .inl (event_goesTo (.waitTimeout v) s)
  | breakEndReserved c => cases h; exact .inl (event_goesTo (.breakEndReserved c) s)
  | breakEndUnreserved c => cases h; exact .inl (event_goesTo (.breakEndUnreserved c) s)
  | breakCountdown c => cases h; exact .inl (event_goesTo (.breakCountdown c) s)
  | assertion => cases h; exact .inl (event_goesTo .assertion s)
  | releaseOfInhibit => cases h; exact .inl (event_goesTo .releaseOfInhibit s)
  | settleTimerTick => cases h; exact .inl (event_goesTo .settleTimerTick s)
  | sweepVisit fb =>
    cases h
    exact .inl (goesTo_of_sameParts (sameParts_setFb s fb) (event_goesTo (.sweepVisit fb) (s.setFb fb)))
  | noop | request | renew | drive | shed | alter | release | releaseAll | queryLease | listLeases | queryChannel
  | queryStatus | readNotice | clearFault | setNotices | setChannel | setHost | readHost | revoke | tableReset =>
    exact .inl (executeRow_goesTo ((exec_eq_executeRow (by simp [Instr.frame?]) s).symm.trans h))

/-! ### What every step keeps -/

/-- A step leads from the law `P` to the law `P'`, which is no stronger, when both read the parts of the state alone, the
completion of device reset and a millisecond lead to `P'`, and the work of every row leads to a state from which the end of
the event brings `P'` (`Q`). -/
theorem step_leads {P P' : State → Prop} {Q : State → State → Prop} (hparts : ∀ {s t}, s.sameParts t → P s → P t)
    (hparts' : ∀ {s t}, s.sameParts t → P' s → P' t) (hweak : ∀ {s}, P s → P' s)
    (hreset : ∀ {s}, P s → P' s.completeReset) (hadvance : ∀ {s}, P s → P' s.advance)
    (hwork : ∀ (i : Instr) {s}, P s → Q s (s.perform i)) (hsync : ∀ {s t}, Q s t → P' (syncOutputs s t))
    {s t : State} (hs : P s) (h : step s = .next t) : P' t := by
  unfold step at h
  split at h
  · rename_i i rest _
    have hu : P { s with pending := rest } := hparts (s := s) ⟨rfl, rfl, rfl, rfl, rfl⟩ hs
    rcases exec_cases h with hg | rfl
    · cases hg with
      | lines hl => exact hweak (hparts hl hu)
      | work j hw => exact hsync (hwork j (hparts hw hu))
    · exact hreset hu
  · cases h
    unfold State.idle
    split
    · exact hparts' (s := s) ⟨rfl, rfl, rfl, rfl, rfl⟩ (hweak hs)
    · exact hparts' (s := s.advance) ⟨rfl, rfl, rfl, rfl, rfl⟩ (hadvance hs)

/-- A step keeps the law `P` when it reads the parts of the state alone, the completion of device reset and a millisecond keep
it, and the end of the event restores it after the work of every row. -/
theorem step_keeps {P : State → Prop} {Q : State → State → Prop} (hparts : ∀ {s t}, s.sameParts t → P s → P t)
    (hreset : ∀ {s}, P s → P s.completeReset) (hadvance : ∀ {s}, P s → P s.advance)
    (hwork : ∀ (i : Instr) {s}, P s → Q s (s.perform i)) (hsync : ∀ {s t}, Q s t → P (syncOutputs s t))
    {s t : State} (hs : P s) (h : step s = .next t) : P t :=
  step_leads hparts hparts id hreset hadvance hwork hsync hs h

end Sys2Proof.Machine
end

section
/-! PROOFS. The law of the lease table and the channel links (R1, R2, R28, R44): what keeps the order of the wait queue, and the law
with some leases left out, which holds while an operation is at work on them. -/

namespace Sys2Proof.Machine

/-! ### The wait queue -/

theorem priorityOf_of_lease {s t : State} {v : SlotNo} (h : t.lease? v = s.lease? v) :
    t.priorityOf v = s.priorityOf v := by
  simp only [State.priorityOf, h]

theorem priorityOf_eq {s : State} {v : SlotNo} {l : Lease} (h : s.lease? v = some l) : s.priorityOf v = l.priority := by
  simp only [State.priorityOf, h]

/-- The wait queue holds the WAITING leases other than that of slot `v`, in order, and `v` is not in it. -/
structure State.queueApart (s : State) (v : SlotNo) : Prop where
  nodup : s.waitQueue.Nodup
  absent : v ∉ s.waitQueue
  mem : ∀ u, u ≠ v → (u ∈ s.waitQueue ↔ ∃ l ∈ s.lease? u, l.state = .waiting)
  sorted : s.waitQueue.Pairwise fun a b => s.priorityOf b ≤ s.priorityOf a

theorem queueApart_of_queueLaw {s : State} {v : SlotNo} (h : s.queueLaw)
    (hv : ∀ l ∈ s.lease? v, l.state ≠ .waiting) : s.queueApart v := by
  obtain ⟨hn, hm, hp⟩ := h
  refine ⟨hn, fun hq => ?_, fun u _ => hm u, hp⟩
  obtain ⟨l, hl, hw⟩ := (hm v).1 hq
  exact hv l hl hw

theorem queueLaw_of_queueApart {s : State} {v : SlotNo} (h : s.queueApart v)
    (hv : ∀ l ∈ s.lease? v, l.state ≠ .waiting) : s.queueLaw := by
  refine ⟨h.nodup, fun u => ?_, h.sorted⟩
  by_cases hu : u = v
  · subst hu
    exact ⟨fun hq => absurd hq h.absent, fun ⟨l, hl, hw⟩ => absurd hw (hv l hl)⟩
  · exact h.mem u hu

/-- Taking `v` out of the queue (R45). -/
theorem dequeue_queueApart {s : State} (h : s.queueLaw) (v : SlotNo) : (s.dequeue v).queueApart v := by
  obtain ⟨hn, hm, hp⟩ := h
  refine ⟨hn.filter _, by simp, fun u hu => ?_, hp.filter _⟩
  rw [dequeue_lease, ← hm u]
  simp [hu]

theorem queueApart_congr {s t : State} {v : SlotNo} (h : s.queueApart v) (hq : t.waitQueue = s.waitQueue)
    (hl : ∀ u, u ≠ v → t.lease? u = s.lease? u) : t.queueApart v := by
  have hpr : ∀ u ∈ s.waitQueue, t.priorityOf u = s.priorityOf u := fun u hu =>
    priorityOf_of_lease (hl u (ne_of_mem_of_not_mem hu h.absent))
  refine ⟨hq ▸ h.nodup, hq ▸ h.absent, fun u hu => by rw [hq, hl u hu]; exact h.mem u hu, ?_⟩
  rw [hq]
  exact h.sorted.imp_of_mem fun ha hb hab => by rw [hpr _ ha, hpr _ hb]; exact hab

theorem mem_insert_queue {q : List SlotNo} (p : SlotNo → Bool) (v u : SlotNo) :
    u ∈ q.takeWhile p ++ v :: q.dropWhile p ↔ u = v ∨ u ∈ q := by
  rw [List.perm_middle.mem_iff, List.mem_cons, List.takeWhile_append_dropWhile]

/-- An entry put behind entries of no lower priority and ahead of entries of no higher priority leaves the queue in order. -/
theorem sorted_insert_queue {q : List SlotNo} {pr : SlotNo → Priority} {p : SlotNo → Bool} {v : SlotNo}
    (h : q.Pairwise fun a b => pr b ≤ pr a) (hp : ∀ u ∈ q, p u = true → pr v ≤ pr u)
    (hn : ∀ u ∈ q, p u = false → pr u ≤ pr v) :
    (q.takeWhile p ++ v :: q.dropWhile p).Pairwise fun a b => pr b ≤ pr a := by
  induction q with
  | nil => simp
  | cons x q ih =>
    obtain ⟨hx, hq⟩ := List.pairwise_cons.1 h
    cases hpx : p x with
    | true =>
      rw [List.takeWhile_cons_of_pos hpx, List.dropWhile_cons_of_pos hpx, List.cons_append, List.pairwise_cons]
      refine ⟨fun u hu => ?_, ih hq (fun u hu => hp u (.tail x hu)) fun u hu => hn u (.tail x hu)⟩
      rcases (mem_insert_queue p v u).1 hu with rfl | hu
      · exact hp x (.head q) hpx
      · exact hx u hu
    | false =>
      have hxv := hn x (.head q) hpx
      rw [List.takeWhile_cons_of_neg (by simp [hpx]), List.dropWhile_cons_of_neg (by simp [hpx]), List.nil_append,
        List.pairwise_cons]
      refine ⟨fun u hu => ?_, h⟩
      rcases List.mem_cons.1 hu with rfl | hu
      · exact hxv
      · exact le_trans (hx u hu) hxv

/-- A WAITING lease that joins the queue where its priority puts it (R45, R46). -/
theorem queueLaw_of_insert {s t : State} {v : SlotNo} {l : Lease} {p : SlotNo → Bool} (h : s.queueApart v)
    (hq : t.waitQueue = s.waitQueue.takeWhile p ++ v :: s.waitQueue.dropWhile p)
    (hl : ∀ u, u ≠ v → t.lease? u = s.lease? u) (hv : t.lease? v = some l) (hw : l.state = .waiting)
    (hp : ∀ u ∈ s.waitQueue, p u = true → l.priority ≤ s.priorityOf u)
    (hn : ∀ u ∈ s.waitQueue, p u = false → s.priorityOf u ≤ l.priority) : t.queueLaw := by
  have hpr : ∀ u ∈ s.waitQueue, t.priorityOf u = s.priorityOf u := fun u hu =>
    priorityOf_of_lease (hl u (ne_of_mem_of_not_mem hu h.absent))
  have hs : s.waitQueue.Pairwise fun a b => t.priorityOf b ≤ t.priorityOf a :=
    h.sorted.imp_of_mem fun ha hb hab => by rw [hpr _ ha, hpr _ hb]; exact hab
  refine ⟨?_, fun u => ?_, ?_⟩
  · rw [hq, List.perm_middle.nodup_iff, List.takeWhile_append_dropWhile, List.nodup_cons]
    exact ⟨h.absent, h.nodup⟩
  · rw [hq, mem_insert_queue]
    by_cases hu : u = v
    · subst hu
      exact ⟨fun _ => ⟨l, hv, hw⟩, fun _ => .inl rfl⟩
    · rw [h.mem u hu, hl u hu]
      simp [hu]
  · rw [hq]
    refine sorted_insert_queue hs (fun u hu hpu => ?_) fun u hu hpu => ?_
    · rw [hpr u hu, priorityOf_eq hv]; exact hp u hu hpu
    · rw [hpr u hu, priorityOf_eq hv]; exact hn u hu hpu

/-! ### The law with some leases left out -/

/-- The law of the table for every lease but those of the slots in `X`: an operation that is at work on these leases has yet to
bring their links and states together. -/
structure State.lawApart (s : State) (X : Set SlotNo) : Prop where
  queue : s.queueLaw
  link : ∀ {c v}, (s.channel c).state.link = some v → v ∉ X →
    ∃ l, s.lease? v = some l ∧ inSet l.set c = true ∧ (s.channel c).state.allowsLink l.state = true
  set : ∀ {v l}, s.lease? v = some l → v ∉ X → s.setLaw v l

theorem tableLaw_iff {s : State} : s.tableLaw ↔ s.lawApart ∅ := by
  constructor
  · rintro ⟨hq, hl, hs⟩
    exact ⟨hq, fun hc _ => hl _ _ hc, fun hv _ => hs _ _ hv⟩
  · rintro ⟨hq, hl, hs⟩
    exact ⟨hq, fun _ _ hc => hl hc (Set.notMem_empty _), fun _ _ hv => hs hv (Set.notMem_empty _)⟩

theorem lawApart_mono {s : State} {X Y : Set SlotNo} (h : s.lawApart X) (hXY : X ⊆ Y) : s.lawApart Y :=
  ⟨h.queue, fun hc hv => h.link hc fun hx => hv (hXY hx), fun hl hv => h.set hl fun hx => hv (hXY hx)⟩

theorem lawApart_of_tableLaw {s : State} (h : s.tableLaw) (X : Set SlotNo) : s.lawApart X :=
  lawApart_mono (tableLaw_iff.1 h) (Set.empty_subset X)

/-- The law comes back for the lease of slot `v` when its links and its state agree. -/
theorem lawApart_restore {s : State} {X : Set SlotNo} {v : SlotNo} (h : s.lawApart (insert v X))
    (hlink : ∀ c, (s.channel c).state.link = some v →
      ∃ l, s.lease? v = some l ∧ inSet l.set c = true ∧ (s.channel c).state.allowsLink l.state = true)
    (hset : ∀ l, s.lease? v = some l → s.setLaw v l) : s.lawApart X := by
  refine ⟨h.queue, fun {c u} hc hu => ?_, fun {u l} hl hu => ?_⟩
  · by_cases huv : u = v
    · subst huv; exact hlink c hc
    · exact h.link hc (by simp [huv, hu])
  · by_cases huv : u = v
    · subst huv; exact hset l hl
    · exact h.set hl (by simp [huv, hu])

theorem tableLaw_restore {s : State} {v : SlotNo} (h : s.lawApart {v})
    (hlink : ∀ c, (s.channel c).state.link = some v →
      ∃ l, s.lease? v = some l ∧ inSet l.set c = true ∧ (s.channel c).state.allowsLink l.state = true)
    (hset : ∀ l, s.lease? v = some l → s.setLaw v l) : s.tableLaw :=
  tableLaw_iff.2 (lawApart_restore (X := ∅) (by simpa using h) hlink hset)

/-- A slot whose lease is gone and that no channel links to obeys the law. -/
theorem lawApart_restore_free {s : State} {X : Set SlotNo} {v : SlotNo} (h : s.lawApart (insert v X))
    (hlink : ∀ c, (s.channel c).state.link ≠ some v) (hl : s.lease? v = none) : s.lawApart X :=
  lawApart_restore h (fun c hc => absurd hc (hlink c)) fun l hl' => by rw [hl] at hl'; cases hl'

/-- A WAITING lease that no channel links to obeys the law. -/
theorem lawApart_restore_waiting {s : State} {X : Set SlotNo} {v : SlotNo} {l : Lease} (h : s.lawApart (insert v X))
    (hlink : ∀ c, (s.channel c).state.link ≠ some v) (hl : s.lease? v = some l) (hw : l.state = .waiting) :
    s.lawApart X := by
  refine lawApart_restore h (fun c hc => absurd hc (hlink c)) fun l' hl' => ?_
  obtain rfl : l = l' := Option.some_inj.1 (hl.symm.trans hl')
  simp [State.setLaw, hw, hlink]

/-- An operation that works on the leases of `X` alone, and on channels that are linked to them or to none, keeps the law of
the others. -/
theorem lawApart_local {s t : State} {X : Set SlotNo} (h : s.lawApart X) (hq : t.queueLaw)
    (hl : ∀ u, u ∉ X → t.lease? u = s.lease? u) (hi : s.inhibit.inEffect = true → t.inhibit.inEffect = true)
    (hc : ∀ c, (t.channel c).state = (s.channel c).state ∨
      (∀ u, (s.channel c).state.link = some u → u ∈ X) ∧ ∀ u, (t.channel c).state.link = some u → u ∈ X) :
    t.lawApart X := by
  have same : ∀ {c u}, (s.channel c).state.link = some u → u ∉ X → (t.channel c).state = (s.channel c).state :=
    fun {c u} hcu hu => (hc c).resolve_right fun hx => hu (hx.1 u hcu)
  have same' : ∀ {c u}, (t.channel c).state.link = some u → u ∉ X → (t.channel c).state = (s.channel c).state :=
    fun {c u} hcu hu => (hc c).resolve_right fun hx => hu (hx.2 u hcu)
  refine ⟨hq, fun {c u} hcu hu => ?_, fun {u l} hul hu => ?_⟩
  · have hx := same' hcu hu
    rw [hx] at hcu ⊢
    rw [hl u hu]
    exact h.link hcu hu
  · rw [hl u hu] at hul
    obtain ⟨hwait, hgrant, hheld, hsusp⟩ := h.set hul hu
    refine ⟨fun hx c hcu => ?_, fun hx => ⟨fun c hcs => ?_, ?_⟩, fun hx c hcs => ?_, fun hx => ⟨?_, fun c hcs => ?_⟩⟩
    · rw [same' hcu hu] at hcu
      exact hwait hx c hcu
    · have hcu := (hgrant hx).1 c hcs
      rw [same hcu hu, hcu]
    · obtain ⟨c, hcs, hb⟩ := (hgrant hx).2
      exact ⟨c, hcs, by rw [same ((hgrant hx).1 c hcs) hu]; exact hb⟩
    · have hcu := hheld hx c hcs
      rw [same hcu hu, hcu]
    · exact hi (hsusp hx).1
    · have hcu := (hsusp hx).2 c hcs
      rw [same (u := u) (by rw [hcu]; rfl) hu, hcu]

/-- Every channel of the set of a lease that does not wait is linked to it (R28). -/
theorem link_of_inSet {s : State} {X : Set SlotNo} {v : SlotNo} {l : Lease} {c : ChannelNo} (h : s.lawApart X)
    (hl : s.lease? v = some l) (hv : v ∉ X) (hw : l.state ≠ .waiting) (hc : inSet l.set c = true) :
    (s.channel c).state.link = some v := by
  obtain ⟨-, hgrant, hheld, hsusp⟩ := h.set hl hv
  cases hx : l.state with
  | waiting => exact absurd hx hw
  | granting => exact (hgrant hx).1 c hc
  | held => exact hheld hx c hc
  | suspended => rw [(hsusp hx).2 c hc]; rfl

theorem allowsLink_waiting (x : ChannelState) : x.allowsLink .waiting = false := by cases x <;> rfl

/-- A linked lease does not wait (R28). -/
theorem not_waiting_of_link {s : State} {X : Set SlotNo} {v : SlotNo} {c : ChannelNo} (h : s.lawApart X) (hv : v ∉ X)
    (hc : (s.channel c).state.link = some v) :
    ∃ l, s.lease? v = some l ∧ inSet l.set c = true ∧ l.state ≠ .waiting := by
  obtain ⟨l, hl, hcs, ha⟩ := h.link hc hv
  refine ⟨l, hl, hcs, fun hw => ?_⟩
  rw [hw, allowsLink_waiting] at ha
  cases ha

/-! ### States alike to the law -/

/-- What the law reads of a lease: its state, its set and its priority. -/
def Lease.core (l : Lease) : LeaseState × Word × Priority := (l.state, l.set, l.priority)

/-- What the law reads of a channel's state: everything but the count of a break and the commanded level. -/
def ChannelState.bare : ChannelState → ChannelState
  | .free => .free
  | .brk link _ _ => .brk link 0 0
  | .reserved v => .reserved v
  | .driven v _ => .driven v false
  | .rearm v => .rearm v
  | .lockedOut => .lockedOut

theorem bare_link (x : ChannelState) : x.bare.link = x.link := by cases x <;> rfl
theorem bare_isBreak (x : ChannelState) : x.bare.isBreak = x.isBreak := by cases x <;> rfl
theorem bare_allowsLink (x : ChannelState) (l : LeaseState) : x.bare.allowsLink l = x.allowsLink l := by cases x <;> rfl
theorem bare_eq_rearm {x : ChannelState} {v : SlotNo} : x.bare = .rearm v ↔ x = .rearm v := by
  cases x <;> simp [ChannelState.bare]

/-- The part `t` is `s` as far as the law of the table reads it. -/
structure State.sameTable (s t : State) : Prop where
  queue : t.waitQueue = s.waitQueue
  core : ∀ v, (t.lease? v).map Lease.core = (s.lease? v).map Lease.core
  bare : ∀ c, (t.channel c).state.bare = (s.channel c).state.bare
  inEffect : s.inhibit.inEffect = true → t.inhibit.inEffect = true

theorem sameTable_lease {s t : State} (h : s.sameTable t) {v : SlotNo} {l : Lease} (hl : t.lease? v = some l) :
    ∃ m, s.lease? v = some m ∧ m.state = l.state ∧ m.set = l.set ∧ m.priority = l.priority := by
  have hc := h.core v
  rw [hl] at hc
  obtain ⟨m, hm, he⟩ := Option.map_eq_some_iff.1 hc.symm
  simp only [Lease.core, Prod.mk.injEq] at he
  exact ⟨m, hm, he⟩

theorem sameTable_symm_lease {s t : State} (h : s.sameTable t) {v : SlotNo} {l : Lease} (hl : s.lease? v = some l) :
    ∃ m, t.lease? v = some m ∧ m.state = l.state ∧ m.set = l.set ∧ m.priority = l.priority := by
  have hc := h.core v
  rw [hl] at hc
  obtain ⟨m, hm, he⟩ := Option.map_eq_some_iff.1 hc
  simp only [Lease.core, Prod.mk.injEq] at he
  exact ⟨m, hm, he⟩

theorem sameTable_priorityOf {s t : State} (h : s.sameTable t) (v : SlotNo) : t.priorityOf v = s.priorityOf v := by
  cases hl : t.lease? v with
  | some l =>
    obtain ⟨m, hm, -, -, hp⟩ := sameTable_lease h hl
    rw [priorityOf_eq hl, priorityOf_eq hm, hp]
  | none =>
    have hn : s.lease? v = none := by have := h.core v; rw [hl] at this; exact Option.map_eq_none_iff.1 this.symm
    simp only [State.priorityOf, hl, hn]

theorem lawApart_of_sameTable {s t : State} {X : Set SlotNo} (h : s.sameTable t) (hs : s.lawApart X) : t.lawApart X := by
  have hlink : ∀ c, (t.channel c).state.link = (s.channel c).state.link := fun c => by
    rw [← bare_link, h.bare, bare_link]
  obtain ⟨hn, hm, hp⟩ := hs.queue
  refine ⟨⟨h.queue ▸ hn, fun v => ?_, ?_⟩, fun {c v} hc hv => ?_, fun {v l} hl hv => ?_⟩
  · rw [h.queue, hm v]
    constructor
    · rintro ⟨l, hl, hw⟩
      obtain ⟨m, hm, hx, -⟩ := sameTable_symm_lease h hl
      exact ⟨m, hm, hx.trans hw⟩
    · rintro ⟨l, hl, hw⟩
      obtain ⟨m, hm, hx, -⟩ := sameTable_lease h hl
      exact ⟨m, hm, hx.trans hw⟩
  · rw [h.queue]
    simpa only [sameTable_priorityOf h] using hp
  · rw [hlink] at hc
    obtain ⟨l, hl, hcs, ha⟩ := hs.link hc hv
    obtain ⟨m, hm, hx, hset, -⟩ := sameTable_symm_lease h hl
    exact ⟨m, hm, hset ▸ hcs, by rw [← bare_allowsLink, h.bare, bare_allowsLink, hx]; exact ha⟩
  · obtain ⟨m, hm, hx, hset, -⟩ := sameTable_lease h hl
    obtain ⟨hwait, hgrant, hheld, hsusp⟩ := hs.set hm hv
    rw [hx] at hwait hgrant hheld hsusp
    rw [hset] at hgrant hheld hsusp
    refine ⟨fun hl c => hlink c ▸ hwait hl c, fun hl => ⟨fun c hc => (hlink c).trans ((hgrant hl).1 c hc), ?_⟩,
      fun hl c hc => (hlink c).trans (hheld hl c hc), fun hl => ⟨h.inEffect (hsusp hl).1, fun c hc => ?_⟩⟩
    · obtain ⟨c, hc, hb⟩ := (hgrant hl).2
      exact ⟨c, hc, by rw [← bare_isBreak, h.bare, bare_isBreak]; exact hb⟩
    · rw [← bare_eq_rearm, h.bare, bare_eq_rearm]
      exact (hsusp hl).2 c hc

theorem tableLaw_of_sameTable {s t : State} (h : s.sameTable t) (hs : s.tableLaw) : t.tableLaw :=
  tableLaw_iff.2 (lawApart_of_sameTable h (tableLaw_iff.1 hs))

theorem sameTable_of_sameParts {s t : State} (h : s.sameParts t) : s.sameTable t :=
  ⟨h.waitQueue, fun v => by rw [sameParts_lease h], fun c => by rw [sameParts_channel h], fun hi => h.inEffect ▸ hi⟩

theorem sameTable_trans {s t u : State} (h : s.sameTable t) (h' : t.sameTable u) : s.sameTable u :=
  ⟨h'.queue.trans h.queue, fun v => (h'.core v).trans (h.core v), fun c => (h'.bare c).trans (h.bare c),
    fun hi => h'.inEffect (h.inEffect hi)⟩

theorem sameTable_notify (s : State) (h : HostNo) (n : Notice) : s.sameTable (s.notify h n) :=
  ⟨rfl, fun _ => rfl, fun _ => rfl, id⟩

theorem sameTable_notifyAll (s : State) (n : Notice) : s.sameTable (s.notifyAll n) :=
  ⟨rfl, fun _ => rfl, fun _ => rfl, id⟩

theorem sameTable_answer (s : State) (p : HostNo) (seq : Byte) (r : Result) (fields : List Byte) :
    s.sameTable (s.answer p seq r fields) :=
  ⟨rfl, fun _ => rfl, fun _ => rfl, id⟩

theorem sameTable_modifyLease {s : State} {v : SlotNo} {f : Lease → Lease}
    (hf : ∀ l, s.lease? v = some l → (f l).core = l.core) : s.sameTable (s.modifyLease v f) := by
  refine ⟨rfl, fun u => ?_, fun _ => rfl, id⟩
  rw [modifyLease_lease]
  split
  · rename_i hu
    subst hu
    cases hl : s.lease? u with
    | none => rfl
    | some l => simp [hf l hl]
  · rfl

theorem sameTable_syncOutputs (s t : State) : t.sameTable (syncOutputs s t) :=
  ⟨rfl, fun _ => rfl, fun c => by rw [syncOutputs_channel_state], id⟩

theorem sameTable_warningCheck (s : State) (v : SlotNo) : s.sameTable (s.warningCheck v) := by
  unfold State.warningCheck
  split
  · exact sameTable_of_sameParts (sameParts_refl s)
  · split
    · exact sameTable_trans (sameTable_modifyLease (f := fun l => { l with warned := true }) fun _ _ => rfl)
        (sameTable_notify _ _ _)
    · exact sameTable_of_sameParts (sameParts_refl s)

end Sys2Proof.Machine
end

section
/-! PROOFS. The lease-end procedure, the hold, pre-emption, the grant and the pass keep the law of the table (R1, R2, R28, R37, R44,
R50 to R58, R62). -/

namespace Sys2Proof.Machine

/-! ### The channel requests -/

theorem leave_link (ch : Channel) : ch.leave.link = none := by
  unfold Channel.leave
  split
  · split <;> rfl
  all_goals rfl

/-- A linked channel that is handed over is reserved to the winner (R13). -/
theorem handOver_of_link {ch : Channel} {v : SlotNo} (h : ch.state.link = some v) (w : SlotNo) :
    ch.handOver w = .reserved w ∨ ∃ r m, ch.handOver w = .brk (some w) r m := by
  unfold Channel.handOver
  split
  · split
    · exact .inl rfl
    · exact .inr ⟨_, _, rfl⟩
  · exact .inl rfl
  · exact .inl rfl
  · exact .inr ⟨_, _, rfl⟩
  all_goals rename_i hx; rw [hx] at h; cases h

/-- A channel that is linked to the winner or to none, and is not locked out, is reserved to the winner by the grant (R9). -/
theorem reserve_of_open {ch : Channel} {w : SlotNo} (hl : ch.state ≠ .lockedOut)
    (h : ch.state.link = none ∨ ch.state = .reserved w ∨ ∃ r m, ch.state = .brk (some w) r m) :
    ch.reserve w = match ch.state with
      | .brk _ r m => .brk (some w) r m
      | _ => .reserved w := by
  unfold Channel.reserve
  rcases h with h | h | ⟨r, m, h⟩
  · cases hx : ch.state with
    | lockedOut => exact absurd hx hl
    | brk link r m => rw [hx] at h; cases h; rfl
    | free => rfl
    | reserved v => rw [hx] at h; cases h
    | driven v level => rw [hx] at h; cases h
    | rearm v => rw [hx] at h; cases h
  · rw [h]
  · rw [h]

/-! ### The lease-end procedure -/

theorem withoutLease_lease (s : State) (v u : SlotNo) (l : Lease) :
    (s.withoutLease v l).lease? u = if u = v then none else s.lease? u := by
  unfold State.withoutLease State.lease? State.slot
  rw [bankModify_get]
  split <;> rfl

theorem withoutLease_channel_waiting {l : Lease} (h : l.state = .waiting) (s : State) (v : SlotNo) (c : ChannelNo) :
    (s.withoutLease v l).channel c = s.channel c := by
  simp only [State.withoutLease, State.channel, h, if_true]

theorem withoutLease_channel {l : Lease} (h : l.state ≠ .waiting) (s : State) (v : SlotNo) (c : ChannelNo) :
    (s.withoutLease v l).channel c =
      if inSet l.set c then { s.channel c with state := (s.channel c).leave } else s.channel c := by
  unfold State.withoutLease State.channel
  rw [if_neg h]
  exact bank_get _ c

theorem withoutLease_waitQueue (s : State) (v : SlotNo) (l : Lease) :
    (s.withoutLease v l).waitQueue = if l.state = .waiting then s.waitQueue.filter (· ≠ v) else s.waitQueue := rfl

/-- The lease-end procedure leaves no link to the lease (R37). -/
theorem withoutLease_link {s : State} {v : SlotNo} {l : Lease} (h : s.tableLaw) (hl : s.lease? v = some l)
    (c : ChannelNo) : ((s.withoutLease v l).channel c).state.link ≠ some v := by
  have ha := tableLaw_iff.1 h
  by_cases hw : l.state = .waiting
  · rw [withoutLease_channel_waiting hw]
    exact (ha.set hl (Set.notMem_empty v)).1 hw c
  · rw [withoutLease_channel hw]
    split
    · simp [leave_link]
    · rename_i hc
      intro hv
      obtain ⟨m, hm, hcm, -⟩ := ha.link hv (Set.notMem_empty v)
      obtain rfl : l = m := Option.some_inj.1 (hl.symm.trans hm)
      exact hc hcm

theorem tableLaw_withoutLease {s : State} {v : SlotNo} {l : Lease} (h : s.tableLaw) (hl : s.lease? v = some l) :
    (s.withoutLease v l).tableLaw := by
  have ha := tableLaw_iff.1 h
  have hlease : ∀ u, u ≠ v → (s.withoutLease v l).lease? u = s.lease? u := fun u hu => by
    rw [withoutLease_lease, if_neg hu]
  have hnone : (s.withoutLease v l).lease? v = none := by rw [withoutLease_lease, if_pos rfl]
  have hqueue : (s.withoutLease v l).queueLaw := by
    refine queueLaw_of_queueApart (v := v) ?_ (by simp [hnone])
    by_cases hw : l.state = .waiting
    · refine queueApart_congr (dequeue_queueApart ha.queue v) ?_ hlease
      rw [withoutLease_waitQueue, if_pos hw, dequeue_waitQueue]
      simp [bne]
      rfl
    · refine queueApart_congr (queueApart_of_queueLaw ha.queue fun m hm => ?_) ?_ hlease
      · obtain rfl : l = m := Option.some_inj.1 (hl.symm.trans hm)
        exact hw
      · rw [withoutLease_waitQueue, if_neg hw]
  refine tableLaw_restore (v := v) (lawApart_local (lawApart_of_tableLaw h {v}) hqueue hlease id fun c => ?_)
    (fun c hc => absurd hc (withoutLease_link h hl c)) (by simp [hnone])
  by_cases hw : l.state = .waiting
  · exact .inl (by rw [withoutLease_channel_waiting hw])
  · rw [withoutLease_channel hw]
    split
    · rename_i hc
      have hv := link_of_inSet ha hl (Set.notMem_empty v) hw hc
      exact .inr ⟨fun u hu => (Option.some_inj.1 (hv.symm.trans hu)).symm, fun u hu => by simp [leave_link] at hu⟩
    · exact .inl rfl

theorem endQuietly_eq {s : State} {v : SlotNo} {l : Lease} (hl : s.lease? v = some l) :
    s.endQuietly v = s.withoutLease v l := takeOut_freeSlot hl

/-! ### The hold -/

/-- The GRANTING lease `l` of slot `v` has its whole set reserved to it, some of it perhaps in BREAK: what a grant, the end of a
break and a SHED leave before the hold (R51, R63, R78). -/
structure State.reservedTo (s : State) (v : SlotNo) (l : Lease) : Prop where
  apart : s.lawApart {v}
  lease : s.lease? v = some l
  granting : l.state = .granting
  mem : ∀ {c}, (s.channel c).state.link = some v → inSet l.set c = true
  state : ∀ {c}, inSet l.set c = true →
    (s.channel c).state = .reserved v ∨ ∃ r m, (s.channel c).state = .brk (some v) r m

theorem reservedTo_link {s : State} {v : SlotNo} {l : Lease} (h : s.reservedTo v l) {c : ChannelNo}
    (hc : inSet l.set c = true) : (s.channel c).state.link = some v := by
  rcases h.state hc with hx | ⟨r, m, hx⟩ <;> rw [hx] <;> rfl

theorem anyBreak_iff (s : State) (set : Word) :
    s.anyBreak set = true ↔ ∃ c, inSet set c = true ∧ (s.channel c).state.isBreak = true := by
  simp [State.anyBreak]

/-- A GRANTING lease with a channel in BREAK stands as the law says (R28). -/
theorem reservedTo_tableLaw_of_break {s : State} {v : SlotNo} {l : Lease} (h : s.reservedTo v l)
    (hb : s.anyBreak l.set = true) : s.tableLaw := by
  refine tableLaw_restore h.apart (fun c hc => ⟨l, h.lease, h.mem hc, ?_⟩) fun m hm => ?_
  · rcases h.state (h.mem hc) with hx | ⟨r, m, hx⟩ <;> rw [hx, h.granting] <;> rfl
  · obtain rfl : l = m := Option.some_inj.1 (h.lease.symm.trans hm)
    simp only [State.setLaw, h.granting]
    simpa using ⟨fun c hc => reservedTo_link h hc, (anyBreak_iff s l.set).1 hb⟩

theorem reserved_of_not_break {s : State} {v : SlotNo} {l : Lease} (h : s.reservedTo v l)
    (hb : s.anyBreak l.set = false) {c : ChannelNo} (hc : inSet l.set c = true) :
    (s.channel c).state = .reserved v := by
  refine (h.state hc).resolve_right fun ⟨r, m, hx⟩ => ?_
  have : s.anyBreak l.set = true := (anyBreak_iff s l.set).2 ⟨c, hc, by rw [hx]; rfl⟩
  rw [hb] at this
  cases this

section heldBy
variable (s : State) (own : Option SlotNo) (v : SlotNo) (l : Lease)

theorem heldBy_channel (c : ChannelNo) : (s.heldBy own v l).channel c =
    if inSet l.set c then
      { s.channel c with state := if s.inhibit.inEffect then .rearm v else .driven v (levelOf l.initial c) }
    else s.channel c := bank_get _ c

theorem heldBy_slots : (s.heldBy own v l).slots = (s.setLease v
    { l with state := if s.inhibit.inEffect then .suspended else .held, remaining := l.term, waitRemaining := 0,
             commanded := some l.initial, warned := decide (s.warns l.holder l.term), stepMs := 0 }).slots := by
  unfold State.heldBy
  dsimp only
  split <;> split <;> rfl

theorem heldBy_lease (u : SlotNo) : (s.heldBy own v l).lease? u = if u = v then some
    { l with state := if s.inhibit.inEffect then .suspended else .held, remaining := l.term, waitRemaining := 0,
             commanded := some l.initial, warned := decide (s.warns l.holder l.term), stepMs := 0 }
    else s.lease? u := by
  rw [← setLease_lease, State.lease?, State.slot, heldBy_slots]
  rfl

theorem heldBy_waitQueue : (s.heldBy own v l).waitQueue = s.waitQueue := by
  unfold State.heldBy
  dsimp only
  split <;> split <;> rfl

theorem heldBy_ports : (s.heldBy own v l).ports = s.ports := by
  unfold State.heldBy
  dsimp only
  split <;> split <;> rfl

theorem heldBy_inhibit : (s.heldBy own v l).inhibit = s.inhibit := by
  unfold State.heldBy
  dsimp only
  split <;> split <;> rfl

end heldBy

/-- The hold of a lease whose whole set is RESERVED keeps the law (R10, R28, R62). -/
theorem heldBy_tableLaw {s : State} {v : SlotNo} {l : Lease} (h : s.reservedTo v l) (own : Option SlotNo) :
    (s.heldBy own v l).tableLaw := by
  have hlease : ∀ u, u ≠ v → (s.heldBy own v l).lease? u = s.lease? u := fun u hu => by
    rw [heldBy_lease, if_neg hu]
  have hin : ∀ {c}, inSet l.set c = true → ((s.heldBy own v l).channel c).state =
      if s.inhibit.inEffect then .rearm v else .driven v (levelOf l.initial c) := fun {c} hc => by
    rw [heldBy_channel, if_pos hc]
  have hlink : ∀ {c}, inSet l.set c = true → ((s.heldBy own v l).channel c).state.link = some v := fun {c} hc => by
    rw [hin hc]; split <;> rfl
  have hout : ∀ {c}, inSet l.set c = false → (s.heldBy own v l).channel c = s.channel c := fun {c} hc => by
    rw [heldBy_channel, hc]; rfl
  have hqueue : (s.heldBy own v l).queueLaw := by
    refine queueLaw_of_queueApart (v := v) (queueApart_congr (queueApart_of_queueLaw h.apart.queue fun m hm => ?_)
      (heldBy_waitQueue s own v l) hlease) fun m hm => ?_
    · obtain rfl : l = m := Option.some_inj.1 (h.lease.symm.trans hm)
      simp [h.granting]
    · rw [heldBy_lease, if_pos rfl] at hm
      cases hm
      dsimp only
      split <;> decide
  refine tableLaw_restore (v := v) (lawApart_local h.apart hqueue hlease (heldBy_inhibit s own v l ▸ id) fun c => ?_)
    (fun c hc => ?_) fun m hm => ?_
  · cases hc : inSet l.set c with
    | false => exact .inl (by rw [hout hc])
    | true =>
      refine .inr ⟨fun u hu => ?_, fun u hu => ?_⟩
      · exact (Option.some_inj.1 ((reservedTo_link h hc).symm.trans hu)).symm
      · exact (Option.some_inj.1 ((hlink hc).symm.trans hu)).symm
  · rw [heldBy_lease, if_pos rfl]
    have hcs : inSet l.set c = true := by
      by_contra hn
      rw [hout (by simpa using hn)] at hc
      exact hn (h.mem hc)
    refine ⟨_, rfl, hcs, ?_⟩
    rw [hin hcs]
    cases s.inhibit.inEffect <;> rfl
  · rw [heldBy_lease, if_pos rfl] at hm
    cases hm
    have hi := heldBy_inhibit s own v l
    simp only [State.setLaw, hi]
    cases hx : s.inhibit.inEffect with
    | false => simpa using fun c hc => hlink hc
    | true => simpa [hx] using fun c hc => hin hc

theorem holdLease_of_reservedTo {s : State} {v : SlotNo} {l : Lease} (h : s.reservedTo v l)
    (hb : s.anyBreak l.set = false) (own : Option SlotNo) : s.holdLease own v = s.heldBy own v l :=
  holdLease_eq h.lease own fun _ hc => ⟨v, reserved_of_not_break h hb hc⟩

theorem holdUnlessBreak_tableLaw {s : State} {v : SlotNo} {l : Lease} (h : s.reservedTo v l) (own : Option SlotNo) :
    (s.holdUnlessBreak own v l.set).tableLaw := by
  unfold State.holdUnlessBreak
  cases hb : s.anyBreak l.set with
  | true => exact reservedTo_tableLaw_of_break h hb
  | false =>
    rw [if_neg (by decide), holdLease_of_reservedTo h hb]
    exact heldBy_tableLaw h own

/-! ### Pre-emption -/

section preempt
variable {s : State} {v : SlotNo} {m : Lease}

theorem preempt_channel (hl : s.lease? v = some m) (w : SlotNo) (wset : Word) (c : ChannelNo) :
    (State.preempt w wset s v).channel c = if inSet m.set c then
      { s.channel c with state := if inSet wset c then (s.channel c).handOver w else (s.channel c).leave }
    else s.channel c := by
  unfold State.preempt
  rw [hl]
  dsimp only
  split <;> exact mapChannels_channel s _ c

theorem preempt_lease_ne {u : SlotNo} (hu : u ≠ v) (s : State) (w : SlotNo) (wset : Word) :
    (State.preempt w wset s v).lease? u = s.lease? u := by
  unfold State.preempt
  split
  · rfl
  · dsimp only
    split <;> simp [hu]

/-- A victim returns to the queue, or its slot is FREE (R56, R57). -/
theorem preempt_lease_self (hl : s.lease? v = some m) (w : SlotNo) (wset : Word) :
    (State.preempt w wset s v).lease? v =
      if m.requeue && m.maxWait != 0 then some m.requeuedRecord else none := by
  unfold State.preempt
  rw [hl]
  dsimp only
  split
  · rename_i hr
    simp [hl]
  · rename_i hr
    simp

theorem preempt_waitQueue (hl : s.lease? v = some m) (w : SlotNo) (wset : Word) :
    (State.preempt w wset s v).waitQueue = if m.requeue && m.maxWait != 0 then
      s.waitQueue.takeWhile (fun u => m.priority < s.priorityOf u) ++ v ::
        s.waitQueue.dropWhile (fun u => m.priority < s.priorityOf u)
      else s.waitQueue := by
  have hp : ∀ (f : ChannelNo → Channel → Channel) (u : SlotNo),
      ((s.mapChannels f).modifyLease v Lease.requeuedRecord).priorityOf u = s.priorityOf u := by
    intro f u
    by_cases hu : u = v
    · subst hu
      rw [priorityOf_eq hl, priorityOf_eq (l := m.requeuedRecord) (by simp [hl])]
      rfl
    · exact priorityOf_of_lease (by simp [hu])
  unfold State.preempt
  rw [hl]
  dsimp only
  split
  · simp only [notify_waitQueue, State.enqueueFront, setQueue_waitQueue, modifyLease_waitQueue, mapChannels_waitQueue, hp]
  · rfl

end preempt

/-- The grant of the waiting lease `l` in slot `w` is under way (R51, R54): some of its channels are reserved to it already, and the
others are linked to none or to leases that yield to it. -/
structure State.taking (s : State) (w : SlotNo) (l : Lease) : Prop where
  apart : s.lawApart {w}
  lease : s.lease? w = some l
  waiting : l.state = .waiting
  link : ∀ {c}, (s.channel c).state.link = some w → inSet l.set c = true ∧
    ((s.channel c).state = .reserved w ∨ ∃ r m, (s.channel c).state = .brk (some w) r m)
  unlocked : ∀ {c}, inSet l.set c = true → (s.channel c).state ≠ .lockedOut
  yields : ∀ {c v}, inSet l.set c = true → (s.channel c).state.link = some v → v ≠ w → s.yields v l.priority = true

theorem channelPasses_of_grantable {s : State} {ahead : List SlotNo} {w : SlotNo} {l : Lease}
    (hl : s.lease? w = some l) (h : s.grantable ahead w = true) {c : ChannelNo} (hc : inSet l.set c = true) :
    s.channelPasses l.priority c = true := by
  simp only [State.grantable, hl, Bool.and_eq_true, List.all_eq_true] at h
  simpa [hc] using h.1 c (List.mem_finRange c)

theorem available_of_grantable {s : State} {ahead : List SlotNo} {w : SlotNo} {l : Lease}
    (hl : s.lease? w = some l) (h : s.grantable ahead w = true) {c : ChannelNo} (hc : inSet l.set c = true) :
    (s.channel c).available = true := by
  have := channelPasses_of_grantable hl h hc
  simp only [State.channelPasses, Bool.and_eq_true] at this
  exact this.1

theorem yields_of_grantable {s : State} {ahead : List SlotNo} {w : SlotNo} {l : Lease}
    (hl : s.lease? w = some l) (h : s.grantable ahead w = true) {c : ChannelNo} (hc : inSet l.set c = true) {v : SlotNo}
    (hv : (s.channel c).state.link = some v) : s.yields v l.priority = true := by
  have := channelPasses_of_grantable hl h hc
  simp only [State.channelPasses, hv, Bool.and_eq_true] at this
  exact this.2

theorem not_lockedOut_of_available {ch : Channel} (h : ch.available = true) : ch.state ≠ .lockedOut := by
  intro hx
  simp [Channel.available, hx] at h

theorem taking_of_grantable {s : State} {ahead : List SlotNo} {w : SlotNo} {l : Lease} (h : s.tableLaw)
    (hl : s.lease? w = some l) (hw : l.state = .waiting) (hg : s.grantable ahead w = true) : s.taking w l where
  apart := lawApart_of_tableLaw h {w}
  lease := hl
  waiting := hw
  link hc := absurd hc (((tableLaw_iff.1 h).set hl (Set.notMem_empty w)).1 hw _)
  unlocked hc := not_lockedOut_of_available (available_of_grantable hl hg hc)
  yields hc hv _ := yields_of_grantable hl hg hc hv

/-- What the law says of a lease that is to be pre-empted: it does not wait, and it has exactly the channels linked to it. -/
theorem victim_lease {s : State} {w v : SlotNo} {l : Lease} (h : s.taking w l) (hvw : v ≠ w)
    (hv : ∃ c, inSet l.set c = true ∧ (s.channel c).state.link = some v) :
    ∃ m, s.lease? v = some m ∧ m.state ≠ .waiting ∧
      ∀ c, inSet m.set c = true ↔ (s.channel c).state.link = some v := by
  have hvX : v ∉ ({w} : Set SlotNo) := hvw
  obtain ⟨c, -, hc⟩ := hv
  obtain ⟨m, hm, -, hmw⟩ := not_waiting_of_link h.apart hvX hc
  refine ⟨m, hm, hmw, fun d => ⟨fun hd => link_of_inSet h.apart hm hvX hmw hd, fun hd => ?_⟩⟩
  obtain ⟨m', hm', hd', -⟩ := h.apart.link hd hvX
  obtain rfl : m = m' := Option.some_inj.1 (hm.symm.trans hm')
  exact hd'

/-- The links after a pre-emption: those of the victim are gone or lead to the winner, and all others stand. -/
theorem preempt_link {s : State} {w v : SlotNo} {l : Lease} (h : s.taking w l) (hvw : v ≠ w)
    (hv : ∃ c, inSet l.set c = true ∧ (s.channel c).state.link = some v) (c : ChannelNo) {u : SlotNo} (hu : u ≠ w) :
    ((State.preempt w l.set s v).channel c).state.link = some u ↔ u ≠ v ∧ (s.channel c).state.link = some u := by
  obtain ⟨m, hm, -, hset⟩ := victim_lease h hvw hv
  rw [preempt_channel hm]
  split
  · rename_i hc
    have hlink := (hset c).1 hc
    have hnone : ¬(u ≠ v ∧ (s.channel c).state.link = some u) := by
      rintro ⟨huv, hcu⟩
      exact huv (Option.some_inj.1 (hcu.symm.trans hlink))
    refine ⟨fun hcu => absurd hcu ?_, fun hcu => absurd hcu hnone⟩
    dsimp only
    split
    · rcases handOver_of_link hlink w with hx | ⟨r, n, hx⟩ <;> rw [hx] <;>
        exact fun he => hu (Option.some_inj.1 he).symm
    · simp [leave_link]
  · rename_i hc
    refine ⟨fun hcu => ⟨fun huv => hc ((hset c).2 (huv ▸ hcu)), hcu⟩, fun hcu => hcu.2⟩

theorem preempt_queueLaw {s : State} {w v : SlotNo} {m : Lease} (h : s.queueLaw) (hm : s.lease? v = some m)
    (hmw : m.state ≠ .waiting) (wset : Word) : (State.preempt w wset s v).queueLaw := by
  have hapart : s.queueApart v := queueApart_of_queueLaw h fun m' hm' => by
    obtain rfl : m = m' := Option.some_inj.1 (hm.symm.trans hm')
    exact hmw
  have hself := preempt_lease_self hm w wset
  have hq := preempt_waitQueue hm w wset
  by_cases hr : (m.requeue && m.maxWait != 0) = true
  · rw [if_pos hr] at hself hq
    exact queueLaw_of_insert hapart hq (fun u hu => preempt_lease_ne hu s w wset) hself rfl
      (fun u _ hp => (of_decide_eq_true hp).le) fun u _ hp => not_lt.1 (of_decide_eq_false hp)
  · rw [if_neg hr] at hself hq
    exact queueLaw_of_queueApart (queueApart_congr hapart hq fun u hu => preempt_lease_ne hu s w wset) (by simp [hself])

theorem taking_preempt {s : State} {w v : SlotNo} {l : Lease} (h : s.taking w l) (hvw : v ≠ w)
    (hv : ∃ c, inSet l.set c = true ∧ (s.channel c).state.link = some v) : (State.preempt w l.set s v).taking w l := by
  obtain ⟨m, hm, hmw, hset⟩ := victim_lease h hvw hv
  have hne : ∀ {u}, u ≠ v → (State.preempt w l.set s v).lease? u = s.lease? u := fun hu => preempt_lease_ne hu s w l.set
  have hlink := fun c {u} => preempt_link h hvw hv c (u := u)
  have hin : ∀ {c}, inSet m.set c = true → inSet l.set c = true →
      ((State.preempt w l.set s v).channel c).state = .reserved w ∨
        ∃ r n, ((State.preempt w l.set s v).channel c).state = .brk (some w) r n := fun {c} hc hcl => by
    rw [preempt_channel hm, if_pos hc, if_pos hcl]
    exact handOver_of_link ((hset c).1 hc) w
  have hout : ∀ {c}, inSet m.set c = false → (State.preempt w l.set s v).channel c = s.channel c := fun {c} hc => by
    rw [preempt_channel hm, hc]; rfl
  have hboth : (State.preempt w l.set s v).lawApart {v, w} := by
    refine lawApart_local (lawApart_mono h.apart (by simp)) (preempt_queueLaw h.apart.queue hm hmw l.set)
      (fun u hu => hne fun huv => hu (.inl huv)) (fun hi => ?_) fun c => ?_
    · rw [(preempt_leasesOnly s w l.set v).rest.2.1]; exact hi
    · cases hc : inSet m.set c with
      | false => exact .inl (by rw [hout hc])
      | true =>
        have hcv := (hset c).1 hc
        refine .inr ⟨fun u hu => .inl (Option.some_inj.1 (hcv.symm.trans hu)).symm, fun u hu => ?_⟩
        by_cases huw : u = w
        · exact .inr huw
        · obtain ⟨huv, hu'⟩ := (hlink c huw).1 hu
          exact absurd (Option.some_inj.1 (hu'.symm.trans hcv)) huv
  refine ⟨?_, (hne hvw.symm).trans h.lease, h.waiting, fun {c} hc => ?_, fun {c} hc => ?_, fun {c u} hc hu huw => ?_⟩
  · have hgone : ∀ c, ((State.preempt w l.set s v).channel c).state.link ≠ some v := fun c hc =>
      ((hlink c hvw).1 hc).1 rfl
    have hself := preempt_lease_self hm w l.set
    by_cases hr : (m.requeue && m.maxWait != 0) = true
    · rw [if_pos hr] at hself
      exact lawApart_restore_waiting hboth hgone hself rfl
    · rw [if_neg hr] at hself
      exact lawApart_restore_free hboth hgone hself
  · cases hcm : inSet m.set c with
    | false => rw [hout hcm] at hc ⊢; exact h.link hc
    | true =>
      cases hcl : inSet l.set c with
      | true => exact ⟨rfl, hin hcm hcl⟩
      | false =>
        rw [preempt_channel hm, if_pos hcm, hcl] at hc
        simp [leave_link] at hc
  · cases hcm : inSet m.set c with
    | false => rw [hout hcm]; exact h.unlocked hc
    | true => rcases hin hcm hc with hx | ⟨r, n, hx⟩ <;> rw [hx] <;> simp
  · obtain ⟨huv, hu'⟩ := (hlink c huw).1 hu
    have := h.yields hc hu' huw
    simpa only [State.yields, hne huv] using this

/-- After the pre-emption of the leases `vs`, one after the other, their links are gone or lead to the winner (R54). -/
theorem taking_preempts {w : SlotNo} {l : Lease} (vs : List SlotNo) {s : State} (h : s.taking w l) (hn : vs.Nodup)
    (hv : ∀ v ∈ vs, v ≠ w ∧ ∃ c, inSet l.set c = true ∧ (s.channel c).state.link = some v) :
    (vs.foldl (State.preempt w l.set) s).taking w l ∧ ∀ c u, u ≠ w →
      (((vs.foldl (State.preempt w l.set) s).channel c).state.link = some u ↔
        u ∉ vs ∧ (s.channel c).state.link = some u) := by
  induction vs generalizing s with
  | nil => exact ⟨h, fun c u _ => by simp⟩
  | cons v vs ih =>
    obtain ⟨hvs, hn⟩ := List.nodup_cons.1 hn
    obtain ⟨hvw, hvc⟩ := hv v (.head vs)
    have hlink := fun c {u} => preempt_link h hvw hvc c (u := u)
    have hrest : ∀ x ∈ vs, x ≠ w ∧ ∃ c, inSet l.set c = true ∧
        ((State.preempt w l.set s v).channel c).state.link = some x := fun x hx => by
      obtain ⟨hxw, c, hc, hcx⟩ := hv x (.tail v hx)
      exact ⟨hxw, c, hc, (hlink c hxw).2 ⟨ne_of_mem_of_not_mem hx hvs, hcx⟩⟩
    obtain ⟨ht, hl⟩ := ih (taking_preempt h hvw hvc) hn hrest
    refine ⟨ht, fun c u hu => ?_⟩
    rw [List.foldl_cons, hl c u hu, hlink c hu, List.mem_cons, not_or]
    tauto

theorem mem_victims {s : State} {set : Word} {v : SlotNo} :
    v ∈ s.victims set ↔ ∃ c, inSet set c = true ∧ (s.channel c).state.link = some v := by
  simp [State.victims]

theorem victims_ne {s : State} {w : SlotNo} {l : Lease} (h : s.tableLaw) (hl : s.lease? w = some l)
    (hw : l.state = .waiting) {v : SlotNo} (hv : v ∈ s.victims l.set) : v ≠ w := by
  rintro rfl
  obtain ⟨c, -, hc⟩ := mem_victims.1 hv
  exact ((tableLaw_iff.1 h).set hl (Set.notMem_empty v)).1 hw c hc

/-! ### The grant -/

/-- The part once every victim of the grant of the lease `l` in slot `w` is pre-empted (R51, step 1). -/
abbrev State.cleared (s : State) (w : SlotNo) (l : Lease) : State :=
  (s.victims l.set).foldl (State.preempt w l.set) s

theorem taking_cleared {s : State} {ahead : List SlotNo} {w : SlotNo} {l : Lease} (h : s.tableLaw)
    (hl : s.lease? w = some l) (hw : l.state = .waiting) (hg : s.grantable ahead w = true) :
    (s.cleared w l).taking w l ∧ ∀ c, inSet l.set c = true → ((s.cleared w l).channel c).state.link = none ∨
      ((s.cleared w l).channel c).state.link = some w := by
  have hn : (s.victims l.set).Nodup := (List.nodup_finRange 24).filter _
  obtain ⟨ht, hlink⟩ := taking_preempts _ (taking_of_grantable h hl hw hg) hn fun v hv =>
    ⟨victims_ne h hl hw hv, mem_victims.1 hv⟩
  refine ⟨ht, fun c hc => ?_⟩
  cases hx : ((s.cleared w l).channel c).state.link with
  | none => exact .inl rfl
  | some u =>
    refine .inr (congrArg some (by_contra fun hu => ?_))
    obtain ⟨hnot, hcu⟩ := (hlink c u hu).1 hx
    exact hnot (mem_victims.2 ⟨c, hc, hcu⟩)

/-- Each channel of the set, as the grant reserves it (R9, R51). -/
theorem reserve_cleared {s : State} {ahead : List SlotNo} {w : SlotNo} {l : Lease} (h : s.tableLaw)
    (hl : s.lease? w = some l) (hw : l.state = .waiting) (hg : s.grantable ahead w = true) {c : ChannelNo}
    (hc : inSet l.set c = true) : ((s.cleared w l).channel c).reserve w =
      match ((s.cleared w l).channel c).state with
      | .brk _ r m => .brk (some w) r m
      | _ => .reserved w := by
  obtain ⟨ht, hlink⟩ := taking_cleared h hl hw hg
  exact reserve_of_open (ht.unlocked hc) ((hlink c hc).imp_right fun hx => (ht.link hx).2)

theorem reserveSet_channel (s : State) (w : SlotNo) (set : Word) (c : ChannelNo) : (s.reserveSet w set).channel c =
    if inSet set c then { s.channel c with state := (s.channel c).reserve w } else s.channel c :=
  mapSet_channel _ set _ c

theorem reserveSet_lease (s : State) (w u : SlotNo) (set : Word) :
    (s.reserveSet w set).lease? u = if u = w then (s.lease? u).map Lease.grantedRecord else s.lease? u :=
  modifyLease_lease (s.dequeue w) w u _

theorem reserveSet_reservedTo {s : State} {ahead : List SlotNo} {w : SlotNo} {l : Lease} (h : s.tableLaw)
    (hl : s.lease? w = some l) (hw : l.state = .waiting) (hg : s.grantable ahead w = true) :
    ((s.cleared w l).reserveSet w l.set).reservedTo w l.grantedRecord := by
  obtain ⟨ht, hlink⟩ := taking_cleared h hl hw hg
  have hin : ∀ {c}, inSet l.set c = true → (((s.cleared w l).reserveSet w l.set).channel c).state = .reserved w ∨
      ∃ r m, (((s.cleared w l).reserveSet w l.set).channel c).state = .brk (some w) r m := fun {c} hc => by
    rw [reserveSet_channel, if_pos hc, reserve_cleared h hl hw hg hc]
    dsimp only
    split
    · exact .inr ⟨_, _, rfl⟩
    · exact .inl rfl
  have hout : ∀ {c}, inSet l.set c = false →
      ((s.cleared w l).reserveSet w l.set).channel c = (s.cleared w l).channel c := fun {c} hc => by
    rw [reserveSet_channel, hc]; rfl
  have hself : ((s.cleared w l).reserveSet w l.set).lease? w = some l.grantedRecord := by
    rw [reserveSet_lease, if_pos rfl, ht.lease]; rfl
  have hne : ∀ u, u ≠ w → ((s.cleared w l).reserveSet w l.set).lease? u = (s.cleared w l).lease? u := fun u hu => by
    rw [reserveSet_lease, if_neg hu]
  refine ⟨?_, hself, rfl, fun {c} hc => ?_, hin⟩
  · refine lawApart_local ht.apart ?_ hne id fun c => ?_
    · refine queueLaw_of_queueApart (queueApart_congr (dequeue_queueApart ht.apart.queue w) rfl hne) fun m hm => ?_
      rw [hself] at hm
      cases hm
      simp [Lease.grantedRecord]
    · cases hc : inSet l.set c with
      | false => exact .inl (by rw [hout hc])
      | true =>
        refine .inr ⟨fun u hu => ?_, fun u hu => ?_⟩
        · rcases hlink c hc with hx | hx <;> rw [hx] at hu <;> cases hu
          rfl
        · rcases hin hc with hx | ⟨r, m, hx⟩ <;> rw [hx] at hu <;> cases hu <;> rfl
  · by_contra hn
    rw [hout (by simpa [Lease.grantedRecord] using hn)] at hc
    exact hn (ht.link hc).1

theorem grant_eq {s : State} {w : SlotNo} {l : Lease} (hl : s.lease? w = some l) (own : Option SlotNo) :
    s.grant own w = ((s.cleared w l).reserveSet w l.set).holdUnlessBreak own w l.set := by
  simp only [State.grant, hl]

theorem grant_tableLaw {s : State} {ahead : List SlotNo} {w : SlotNo} {l : Lease} (h : s.tableLaw)
    (hl : s.lease? w = some l) (hw : l.state = .waiting) (hg : s.grantable ahead w = true) (own : Option SlotNo) :
    (s.grant own w).tableLaw := by
  rw [grant_eq hl]
  exact holdUnlessBreak_tableLaw (reserveSet_reservedTo h hl hw hg) own

/-- An entry of the wait queue is a WAITING lease (R44). -/
theorem waiting_of_mem_queue {s : State} (h : s.tableLaw) {w : SlotNo} (hw : w ∈ s.waitQueue) :
    ∃ l, s.lease? w = some l ∧ l.state = .waiting := (h.1.2.1 w).1 hw

end Sys2Proof.Machine
end

section
/-! PROOFS. The law of the table and of the lease records through the commands and events (R1, R2, R26, R27, R28, R44). -/

namespace Sys2Proof.Machine

/-! ### The lease records -/

theorem grantedRecord_recordLaw {l : Lease} (h : l.recordLaw) (hw : l.state = .waiting) : l.grantedRecord.recordLaw := by
  obtain ⟨hset, ht, ht', hm, -, -, hi, -, hx, -⟩ := h
  obtain ⟨hr, hc, hwd⟩ := hx (.inl hw)
  exact ⟨hset, ht, ht', hm, Nat.zero_le _, hr.trans_le (Nat.zero_le _), hi, by simp [Lease.grantedRecord, hc],
    fun _ => ⟨hr, hc, hwd⟩, fun _ => rfl, fun hy => by simp [Lease.grantedRecord] at hy⟩

theorem requeuedRecord_recordLaw {l : Lease} (h : l.recordLaw) : l.requeuedRecord.recordLaw := by
  obtain ⟨hset, ht, ht', hm, -, -, hi, -⟩ := h
  exact ⟨hset, ht, ht', hm, le_rfl, Nat.zero_le _, hi, rfl, fun _ => ⟨rfl, rfl, rfl⟩, fun hy => absurd rfl hy,
    fun hy => by simp [Lease.requeuedRecord] at hy⟩

/-- The records keep their ranges when each of them stands or obeys its law. -/
theorem recordLaw_of_lease {s t : State} (h : s.recordLaw)
    (ht : ∀ v l, t.lease? v = some l → s.lease? v = some l ∨ l.recordLaw) : t.recordLaw := fun v l hl =>
  (ht v l hl).elim (h v l) id

theorem recordLaw_modifyLease {s : State} (h : s.recordLaw) {v : SlotNo} {f : Lease → Lease}
    (hf : ∀ l, s.lease? v = some l → l.recordLaw → (f l).recordLaw) : (s.modifyLease v f).recordLaw := by
  refine recordLaw_of_lease h fun u l hl => ?_
  rw [modifyLease_lease] at hl
  split at hl
  · rename_i hu
    subst hu
    obtain ⟨m, hm, rfl⟩ := Option.map_eq_some_iff.1 hl
    exact .inr (hf m hm (h u m hm))
  · exact .inl hl

theorem withoutLease_recordLaw {s : State} (h : s.recordLaw) (v : SlotNo) (l : Lease) :
    (s.withoutLease v l).recordLaw := by
  refine recordLaw_of_lease h fun u m hm => ?_
  rw [withoutLease_lease] at hm
  split at hm
  · cases hm
  · exact .inl hm

theorem preempt_recordLaw {s : State} (h : s.recordLaw) (w v : SlotNo) (wset : Word) :
    (State.preempt w wset s v).recordLaw := by
  refine recordLaw_of_lease h fun u l hl => ?_
  by_cases hu : u = v
  · subst hu
    cases hm : s.lease? u with
    | none => simp [State.preempt, hm] at hl
    | some m =>
      rw [preempt_lease_self hm] at hl
      split at hl <;> cases hl
      exact .inr (requeuedRecord_recordLaw (h u m hm))
  · exact .inl (preempt_lease_ne hu s w wset ▸ hl)

theorem preempts_recordLaw {w : SlotNo} {wset : Word} (vs : List SlotNo) {s : State} (h : s.recordLaw) :
    (vs.foldl (State.preempt w wset) s).recordLaw := by
  induction vs generalizing s with
  | nil => exact h
  | cons v vs ih => exact ih (preempt_recordLaw h w v wset)

theorem heldBy_recordLaw {s : State} (h : s.recordLaw) {v : SlotNo} {l : Lease} (hl : s.lease? v = some l)
    (own : Option SlotNo) : (s.heldBy own v l).recordLaw := by
  refine recordLaw_of_lease h fun u m hm => ?_
  rw [heldBy_lease] at hm
  split at hm
  · cases hm
    obtain ⟨hset, ht, ht', hmw, -, -, hi, -⟩ := h v l hl
    exact .inr ⟨hset, ht, ht', hmw, Nat.zero_le _, le_rfl, hi, hi, fun hy => by dsimp only at hy; split at hy <;> simp at hy,
      fun _ => rfl, fun _ => ⟨ht, by simp⟩⟩
  · exact .inl hm

/-! ### The two laws together -/

/-- The law of the table and of the lease records. -/
structure State.lawful (s : State) : Prop where
  table : s.tableLaw
  record : s.recordLaw

theorem lawful_of_sameTable {s t : State} (h : s.lawful) (ht : s.sameTable t) (hs : t.slots = s.slots) : t.lawful :=
  ⟨tableLaw_of_sameTable ht h.table, recordLaw_of_lease h.record fun v l hl => .inl (by
    rwa [State.lease?, State.slot, hs] at hl)⟩

theorem lawful_of_sameParts {s t : State} (ht : s.sameParts t) (h : s.lawful) : t.lawful :=
  lawful_of_sameTable h (sameTable_of_sameParts ht) ht.slots

theorem lawful_notify {s : State} (h : s.lawful) (g : HostNo) (n : Notice) : (s.notify g n).lawful :=
  lawful_of_sameTable h (sameTable_notify s g n) rfl

theorem lawful_notifyAll {s : State} (h : s.lawful) (n : Notice) : (s.notifyAll n).lawful :=
  lawful_of_sameTable h (sameTable_notifyAll s n) rfl

theorem lawful_answer {s : State} (h : s.lawful) (p : HostNo) (seq : Byte) (r : Result) (fields : List Byte) :
    (s.answer p seq r fields).lawful :=
  lawful_of_sameTable h (sameTable_answer s p seq r fields) rfl

theorem lawful_refuse {s : State} (h : s.lawful) (p : HostNo) (seq : Byte) (r : Result) : (s.refuse p seq r).lawful :=
  lawful_answer h p seq r []

theorem lawful_modifyHost {s : State} (h : s.lawful) (g : HostNo) (f : HostRecord → HostRecord) :
    (s.modifyHost g f).lawful :=
  lawful_of_sameTable h ⟨rfl, fun _ => rfl, fun _ => rfl, id⟩ rfl

theorem lawful_syncOutputs {s t : State} (h : t.lawful) : (syncOutputs s t).lawful :=
  lawful_of_sameTable h (sameTable_syncOutputs s t) rfl

theorem lawful_modifyLease {s : State} (h : s.lawful) {v : SlotNo} {f : Lease → Lease}
    (hc : ∀ l, s.lease? v = some l → (f l).core = l.core)
    (hr : ∀ l, s.lease? v = some l → l.recordLaw → (f l).recordLaw) : (s.modifyLease v f).lawful :=
  ⟨tableLaw_of_sameTable (sameTable_modifyLease hc) h.table, recordLaw_modifyLease h.record hr⟩

/-- Channels that are linked to no lease change as they will. -/
theorem tableLaw_of_unlinked {s t : State} (h : s.tableLaw) (hs : t.slots = s.slots) (hq : t.waitQueue = s.waitQueue)
    (hi : s.inhibit.inEffect = true → t.inhibit.inEffect = true)
    (hc : ∀ c, (t.channel c).state = (s.channel c).state ∨
      (s.channel c).state.link = none ∧ (t.channel c).state.link = none) : t.tableLaw := by
  have hl : ∀ u, t.lease? u = s.lease? u := fun u => by rw [State.lease?, State.slot, hs]; rfl
  have hqueue : t.queueLaw := by
    obtain ⟨hn, hm, hp⟩ := h.1
    refine ⟨hq ▸ hn, fun u => by rw [hq, hl]; exact hm u, ?_⟩
    rw [hq]
    exact hp.imp fun {a b} hab => by rwa [priorityOf_of_lease (hl a), priorityOf_of_lease (hl b)]
  refine tableLaw_iff.2 (lawApart_local (tableLaw_iff.1 h) hqueue (fun u _ => hl u) hi fun c => ?_)
  refine (hc c).imp_right fun ⟨hx, hy⟩ => ?_
  simp [hx, hy]

theorem lawful_modifyChannel {s : State} (h : s.lawful) {c : ChannelNo} {f : Channel → Channel}
    (hc : (f (s.channel c)).state = (s.channel c).state ∨
      (s.channel c).state.link = none ∧ (f (s.channel c)).state.link = none) : (s.modifyChannel c f).lawful := by
  refine ⟨tableLaw_of_unlinked h.table rfl rfl id fun d => ?_, fun v l hl => h.record v l hl⟩
  rw [modifyChannel_channel]
  split
  · rename_i hd
    subst hd
    exact hc
  · exact .inl rfl

theorem lawful_of_no_lease {s : State} (hl : ∀ v, s.lease? v = none) (hq : s.waitQueue = [])
    (hc : ∀ c, (s.channel c).state.link = none) : s.lawful := by
  refine ⟨⟨⟨?_, fun v => ?_, ?_⟩, fun c v hv => ?_, fun v l hv => ?_⟩, fun v l hv => ?_⟩
  · rw [hq]; exact List.nodup_nil
  · simp [hq, hl]
  · rw [hq]; exact List.Pairwise.nil
  · rw [hc] at hv; cases hv
  · rw [hl] at hv; cases hv
  · rw [hl] at hv; cases hv

/-! ### The shared operations -/

theorem lawful_withoutLease {s : State} (h : s.lawful) {v : SlotNo} {l : Lease} (hl : s.lease? v = some l) :
    (s.withoutLease v l).lawful :=
  ⟨tableLaw_withoutLease h.table hl, withoutLease_recordLaw h.record v l⟩

theorem lawful_endLease {s : State} (h : s.lawful) (v : SlotNo) (n : Notice) : (s.endLease v n).lawful := by
  cases hl : s.lease? v with
  | none => simpa only [State.endLease, hl] using h
  | some l => exact endLease_eq hl n ▸ lawful_notify (lawful_withoutLease h hl) _ _

theorem lawful_holdUnlessBreak {s : State} (hr : s.recordLaw) {v : SlotNo} {l : Lease} (h : s.reservedTo v l)
    (own : Option SlotNo) : (s.holdUnlessBreak own v l.set).lawful := by
  refine ⟨holdUnlessBreak_tableLaw h own, ?_⟩
  unfold State.holdUnlessBreak
  cases hb : s.anyBreak l.set with
  | true => exact hr
  | false =>
    rw [if_neg (by decide), holdLease_of_reservedTo h hb]
    exact heldBy_recordLaw hr h.lease own

theorem lawful_grant {s : State} (h : s.lawful) {ahead : List SlotNo} {w : SlotNo} {l : Lease}
    (hl : s.lease? w = some l) (hw : l.state = .waiting) (hg : s.grantable ahead w = true) (own : Option SlotNo) :
    (s.grant own w).lawful := by
  rw [grant_eq hl]
  have ht := (taking_cleared h.table hl hw hg).1
  refine lawful_holdUnlessBreak ?_ (reserveSet_reservedTo h.table hl hw hg) own
  refine recordLaw_of_lease (s := s.cleared w l) (preempts_recordLaw _ h.record) fun u m hm => ?_
  rw [reserveSet_lease] at hm
  split at hm
  · rename_i hu
    subst hu
    rw [ht.lease] at hm
    cases hm
    exact .inr (grantedRecord_recordLaw (h.record u l hl) hw)
  · exact .inl hm

theorem lawful_pass {s : State} (h : s.lawful) (own : Option SlotNo) : (s.pass own).lawful :=
  pass_induct own (fun _ _ _ ht hw hg => by
    obtain ⟨l, hl, hx⟩ := waiting_of_mem_queue ht.table (List.mem_of_getElem? hw)
    exact lawful_grant ht hl hx hg own) h

theorem lawful_warningCheck {s : State} (h : s.lawful) {v : SlotNo} {l : Lease} (hl : s.lease? v = some l)
    (hx : l.state = .held ∨ l.state = .suspended) : (s.warningCheck v).lawful := by
  refine ⟨tableLaw_of_sameTable (sameTable_warningCheck s v) h.table, ?_⟩
  rw [warningCheck_eq hl]
  split
  · refine recordLaw_of_lease h.record fun u m hm => ?_
    rw [notify_lease, setLease_lease] at hm
    split at hm
    · cases hm
      obtain ⟨hset, ht, ht', hmw, hwr, hr, hi, hc, -, hw, hn⟩ := h.record v l hl
      refine .inr ⟨hset, ht, ht', hmw, hwr, hr, hi, hc, fun hy => ?_, hw, hn⟩
      rcases hx with hx | hx <;> simp [hx] at hy
    · exact .inl hm
  · exact h.record

/-! ### The commands on leases -/

theorem lease_of_named {s : State} {slot gen : Byte} {v : SlotNo} {l : Lease} (h : s.named slot gen = some (v, l)) :
    s.lease? v = some l := by
  unfold State.named at h
  split at h
  · cases h
  · split at h
    · cases h
    · split at h <;> cases h
      assumption

/-- A command that carries a handle is refused, or does its work on a live lease (R24, R66). -/
theorem onOwnLease_keeps {P : State → Prop} {s : State} {p : HostNo} {seq slot gen : Byte} {body : SlotNo → Lease → State}
    (hr : ∀ r, P (s.refuse p seq r)) (hb : ∀ v l, s.lease? v = some l → P (body v l)) :
    P (s.onOwnLease p seq slot gen body) := by
  unfold State.onOwnLease
  split
  · exact hr _
  · rename_i v l hn
    split
    · exact hb v l (lease_of_named hn)
    · exact hr _

theorem stepsField_eq_some {w : Word} {n : Nat} (h : stepsField w = some n) : n = w.toNat ∧ n ≤ 6000 := by
  unfold stepsField at h
  split at h <;> cases h
  exact ⟨rfl, by assumption⟩

theorem subset_and_right (a b : Word) : subset (a &&& b) b = true :=
  (subset_iff _ _).2 fun c hc => by
    rw [inSet_and, Bool.and_eq_true] at hc
    exact hc.2

theorem subset_mergeLevels {old mask levels set : Word} (ho : subset old set = true) (hm : subset mask set = true) :
    subset (mergeLevels old mask levels) set = true := by
  rw [subset_iff] at *
  intro c hc
  simp only [mergeLevels, inSet_or, inSet_and, inSet_not, Bool.or_eq_true, Bool.and_eq_true] at hc
  rcases hc with ⟨hc, -⟩ | ⟨-, hc⟩
  · exact ho c hc
  · exact hm c hc

theorem subset_without {a set shed : Word} (h : subset a set = true) :
    subset (a &&& ~~~shed) (set &&& ~~~shed) = true := by
  rw [subset_iff] at *
  intro c hc
  simp only [inSet_and, inSet_not, Bool.and_eq_true] at hc ⊢
  exact ⟨h c hc.1, hc.2⟩

theorem lowestFree_eq_some {s : State} {v : SlotNo} (h : s.lowestFree = some v) : s.lease? v = none := by
  simpa using List.find?_some h

/-- The law of the table when a WAITING lease enters a FREE slot and the back of its priority group (R36, R45). -/
theorem tableLaw_enter {s : State} (h : s.tableLaw) {v : SlotNo} {l : Lease} (hv : s.lease? v = none)
    (hw : l.state = .waiting) : ((s.modifySlot v fun x => { x with lease := some l }).enqueueBack v l.priority).tableLaw := by
  have hself : ((s.modifySlot v fun x => { x with lease := some l }).enqueueBack v l.priority).lease? v = some l := by
    rw [enqueueBack_lease, State.lease?, modifySlot_slot_self]
  have hne : ∀ u, u ≠ v → (s.modifySlot v fun x => { x with lease := some l }).lease? u = s.lease? u := fun u hu => by
    rw [State.lease?, modifySlot_slot_ne _ hu]; rfl
  have hapart : (s.modifySlot v fun x => { x with lease := some l }).queueApart v :=
    queueApart_congr (queueApart_of_queueLaw h.1 (by simp [hv])) rfl hne
  refine tableLaw_iff.2 (lawApart_restore_waiting (v := v) (lawApart_local (lawApart_of_tableLaw h _) ?_
    (fun u hu => hne u fun huv => hu (.inl huv)) id fun c => .inl rfl) (fun c hc => ?_) hself hw)
  · exact queueLaw_of_insert hapart rfl (fun u _ => rfl) hself hw (fun u _ hp => of_decide_eq_true hp)
      fun u _ hp => (not_le.1 (of_decide_eq_false hp)).le
  · obtain ⟨m, hm, -⟩ := h.2.1 c v hc
    rw [hv] at hm
    cases hm

theorem lawful_enterRequest {s : State} (h : s.lawful) {v : SlotNo} {l : Lease} (hv : s.lease? v = none)
    (hw : l.state = .waiting) (hl : l.recordLaw) : (s.enterRequest v l).lawful := by
  refine lawful_pass ⟨tableLaw_enter h.table hv hw, recordLaw_of_lease h.record fun u m hm => ?_⟩ _
  rw [enqueueBack_lease, State.lease?, modifySlot_slot] at hm
  split at hm
  · cases hm
    exact .inr hl
  · exact .inl hm

theorem admitted_recordLaw {p : HostNo} {set levels term maxWait tag : Word} {pr : Priority} {preemptible requeue : Bool}
    {t w : Nat} (ht : stepsField term = some t) (hw : stepsField maxWait = some w) (h0 : t ≠ 0) (hs : set ≠ 0) :
    (Lease.admitted p set levels pr preemptible requeue term maxWait tag).recordLaw := by
  obtain ⟨rfl, ht⟩ := stepsField_eq_some ht
  obtain ⟨rfl, hw⟩ := stepsField_eq_some hw
  have hs : set ≠ 0#16 := hs
  simp [Lease.recordLaw, Lease.admitted, hs, ht, hw, subset_and_right, Nat.one_le_iff_ne_zero, h0]

theorem lawful_requestOutcome {s : State} (h : s.lawful) (p : HostNo) (seq : Byte) (v : SlotNo) (hd : Handle) :
    (s.requestOutcome p seq v hd).lawful := by
  unfold State.requestOutcome
  split
  · rename_i l hl
    split
    case h_4 hw =>
      split
      · exact lawful_answer h _ _ _ _
      · have he : (s.dequeue v).freeSlot v = s.withoutLease v l := by
          rw [← takeOut_freeSlot hl]; simp only [State.takeOut, hl, hw, if_true]
        rw [he]
        exact lawful_answer (lawful_withoutLease h hl) _ _ _ _
    all_goals exact lawful_answer h _ _ _ _
  · exact lawful_answer h _ _ _ _

theorem lawful_request {s : State} (h : s.lawful) (p : HostNo) (seq : Byte) (set levels : Word) (comp : Byte)
    (term maxWait tag : Word) : (s.request p seq set levels comp term maxWait tag).lawful := by
  unfold State.request
  split
  · rename_i pr preemptible requeue t w _ ht hw
    split
    · exact lawful_refuse h _ _ _
    rename_i h0
    split
    · exact lawful_refuse h _ _ _
    rename_i hs
    split
    · exact lawful_refuse h _ _ _
    split
    · exact lawful_refuse h _ _ _
    split
    · exact lawful_refuse h _ _ _
    · rename_i v hv
      exact lawful_requestOutcome (lawful_enterRequest h (lowestFree_eq_some hv) rfl
        (admitted_recordLaw ht hw h0 fun hz => hs (.inl hz))) _ _ _ _
  · exact lawful_refuse h _ _ _

theorem lawful_renewed {s : State} (h : s.lawful) {v : SlotNo} {l : Lease} (hl : s.lease? v = some l)
    (hx : l.state = .held ∨ l.state = .suspended) {t : Nat} (ht : 1 ≤ t) (ht' : t ≤ 6000) :
    ((s.modifyLease v (Lease.renewed t)).warningCheck v).lawful := by
  refine lawful_warningCheck (l := l.renewed t) (lawful_modifyLease h (fun _ _ => by rfl) fun m hm hr => ?_) (by simp [hl]) hx
  obtain rfl : l = m := Option.some_inj.1 (hl.symm.trans hm)
  obtain ⟨hset, -, -, hmw, hwr, -, hi, hc, -, hw, hn⟩ := hr
  refine ⟨hset, ht, ht', hmw, hwr, le_rfl, hi, hc, fun hy => ?_, hw, fun hy => ⟨ht, (hn hy).2⟩⟩
  have hy : l.state = .waiting ∨ l.state = .granting := hy
  rcases hx with hx | hx <;> simp [hx] at hy

theorem lawful_renew {s : State} (h : s.lawful) (p : HostNo) (seq : Byte) (newTerm : Word) {v : SlotNo} {l : Lease}
    (hl : s.lease? v = some l) : (s.renew p seq newTerm v l).lawful := by
  unfold State.renew
  split
  · exact lawful_refuse h _ _ _
  · rename_i n hn
    obtain ⟨-, hn⟩ := stepsField_eq_some hn
    obtain ⟨-, hterm, hterm', -⟩ := h.record v l hl
    have ht : 1 ≤ (if n = 0 then l.term else n) ∧ (if n = 0 then l.term else n) ≤ 6000 := by
      split
      · exact ⟨hterm, hterm'⟩
      · exact ⟨Nat.one_le_iff_ne_zero.2 (by assumption), hn⟩
    dsimp only
    split
    · exact lawful_refuse h _ _ _
    · rename_i hx
      refine lawful_answer (lawful_modifyLease h (fun _ _ => by rfl) fun m hm hr => ?_) _ _ _ _
      obtain rfl : l = m := Option.some_inj.1 (hl.symm.trans hm)
      obtain ⟨hset, -, -, hmw, hwr, -, hi, hc, hp, hw, hq⟩ := hr
      exact ⟨hset, ht.1, ht.2, hmw, hwr, by rw [(hp (.inr hx)).1]; exact Nat.zero_le _, hi, hc, hp, hw, hq⟩
    · rename_i hx
      exact lawful_answer (lawful_renewed h hl (.inl hx) ht.1 ht.2) _ _ _ _
    · rename_i hx
      exact lawful_answer (lawful_renewed h hl (.inr hx) ht.1 ht.2) _ _ _ _

/-- A channel of a HELD lease is DRIVEN or REARM under it, and a drive makes it DRIVEN (R11, R28). -/
theorem redrive_of_held {s : State} (h : s.tableLaw) {v : SlotNo} {l : Lease} (hl : s.lease? v = some l)
    (hx : l.state = .held) {c : ChannelNo} (hc : inSet l.set c = true) (level : Level) :
    (s.channel c).redrive level = .driven v level := by
  have hlink := link_of_inSet (tableLaw_iff.1 h) hl (Set.notMem_empty v) (by simp [hx]) hc
  obtain ⟨m, hm, -, ha⟩ := h.2.1 c v hlink
  obtain rfl : l = m := Option.some_inj.1 (hl.symm.trans hm)
  unfold Channel.redrive
  cases hy : (s.channel c).state <;> rw [hy, hx] at ha <;> rw [hy] at hlink <;> cases hlink <;> first | rfl | cases ha

/-- The channels of `mask` driven at their levels (R11, R73). -/
abbrev State.redriven (s : State) (mask levels : Word) : State :=
  s.mapChannels fun c ch => if inSet mask c then { ch with state := ch.redrive (levelOf levels c) } else ch

theorem redriven_tableLaw {s : State} (h : s.tableLaw) {v : SlotNo} {l : Lease} (hl : s.lease? v = some l)
    (hx : l.state = .held) {mask : Word} (hm : subset mask l.set = true) (levels : Word) :
    (s.redriven mask levels).tableLaw := by
  have hin := (subset_iff _ _).1 hm
  have hlink : ∀ {c}, inSet l.set c = true → (s.channel c).state.link = some v := fun hc =>
    link_of_inSet (tableLaw_iff.1 h) hl (Set.notMem_empty v) (by simp [hx]) hc
  have hmask : ∀ {c}, inSet mask c = true →
      ((s.redriven mask levels).channel c).state = .driven v (levelOf levels c) := fun {c} hc => by
    rw [mapChannels_channel, if_pos hc]
    exact redrive_of_held h hl hx (hin c hc) _
  have hout : ∀ {c}, inSet mask c = false → (s.redriven mask levels).channel c = s.channel c := fun {c} hc => by
    rw [mapChannels_channel, hc]; rfl
  refine tableLaw_restore (v := v) (lawApart_local (lawApart_of_tableLaw h {v}) h.1 (fun _ _ => rfl) id fun c => ?_)
    (fun c hc => ?_) fun m hm' => ?_
  · cases hcm : inSet mask c with
    | false => exact .inl (by rw [hout hcm])
    | true =>
      refine .inr ⟨fun u hu => (Option.some_inj.1 ((hlink (hin c hcm)).symm.trans hu)).symm, fun u hu => ?_⟩
      rw [hmask hcm] at hu
      exact (Option.some_inj.1 hu).symm
  · cases hcm : inSet mask c with
    | false => rw [hout hcm] at hc ⊢; exact h.2.1 c v hc
    | true => exact ⟨l, hl, hin c hcm, by rw [hmask hcm, hx]; rfl⟩
  · obtain rfl : l = m := Option.some_inj.1 (hl.symm.trans hm')
    simp only [State.setLaw, hx, reduceCtorEq, false_implies, true_implies, true_and, and_true]
    intro c hc
    cases hcm : inSet mask c with
    | false => rw [hout hcm]; exact hlink hc
    | true => rw [hmask hcm]; rfl

theorem lawful_driveHeld {s : State} (h : s.lawful) {v : SlotNo} {l : Lease} (hl : s.lease? v = some l)
    (hx : l.state = .held) {mask : Word} (hm : subset mask l.set = true) (levels : Word) :
    ((s.redriven mask levels).modifyLease v fun l =>
      { l with commanded := some (mergeLevels (l.commanded.getD l.initial) mask levels) }).lawful := by
  have ht : (s.redriven mask levels).lawful := ⟨redriven_tableLaw h.table hl hx hm levels, h.record⟩
  refine lawful_modifyLease ht (fun _ _ => by rfl) fun m hm' hr => ?_
  obtain rfl : l = m := Option.some_inj.1 (hl.symm.trans hm')
  obtain ⟨hset, ht, ht', hmw, hwr, hrm, hi, hc, hp, hw, hn⟩ := hr
  refine ⟨hset, ht, ht', hmw, hwr, hrm, hi, ?_, fun hy => ?_, hw, fun hy => ⟨(hn hy).1, by simp⟩⟩
  · refine subset_mergeLevels ?_ hm
    cases hcm : l.commanded with
    | none => exact hi
    | some old => rw [hcm] at hc; exact hc
  · have hy : l.state = .waiting ∨ l.state = .granting := hy
    simp [hx] at hy

theorem lawful_drivePending {s : State} (h : s.lawful) {v : SlotNo} {l : Lease} (hl : s.lease? v = some l) {mask : Word}
    (hm : subset mask l.set = true) (levels : Word) :
    (s.modifyLease v fun l => { l with initial := mergeLevels l.initial mask levels }).lawful := by
  refine lawful_modifyLease h (fun _ _ => by rfl) fun m hm' hr => ?_
  obtain rfl : l = m := Option.some_inj.1 (hl.symm.trans hm')
  obtain ⟨hset, ht, ht', hmw, hwr, hrm, hi, hc, hp, hw, hn⟩ := hr
  exact ⟨hset, ht, ht', hmw, hwr, hrm, subset_mergeLevels hi hm, hc, hp, hw, hn⟩

theorem lawful_drive {s : State} (h : s.lawful) (p : HostNo) (seq : Byte) (mask levels : Word) {v : SlotNo} {l : Lease}
    (hl : s.lease? v = some l) : (s.drive p seq mask levels v l).lawful := by
  unfold State.drive
  split
  · exact lawful_refuse h _ _ _
  · rename_i hm
    have hm : subset mask l.set = true := by simpa using hm
    split
    · exact lawful_refuse h _ _ _
    · rename_i hx
      exact lawful_answer (lawful_driveHeld h hl hx hm levels) _ _ _ _
    · exact lawful_answer (lawful_drivePending h hl hm levels) _ _ _ _
    · exact lawful_answer (lawful_drivePending h hl hm levels) _ _ _ _

/-! ### SHED -/

theorem without_recordLaw {l : Lease} (h : l.recordLaw) {shed : Word} (hs : subset shed l.set = true)
    (hne : shed ≠ l.set) : (l.without shed).recordLaw := by
  obtain ⟨hset, ht, ht', hmw, hwr, hrm, hi, hc, hp, hw, hn⟩ := h
  refine ⟨fun hz => hne (set_ext fun c => ?_), ht, ht', hmw, hwr, hrm, subset_without hi, ?_, fun hy => ?_, hw,
    fun hy => ⟨(hn hy).1, ?_⟩⟩
  · have hz : inSet (l.set &&& ~~~shed) c = inSet 0#16 c := congrArg (inSet · c) hz
    have hs := (subset_iff _ _).1 hs c
    rw [inSet_and, inSet_not, inSet_zero] at hz
    revert hz hs
    cases inSet shed c <;> cases inSet l.set c <;> simp
  · simp only [Lease.without]
    cases hcm : l.commanded with
    | none => rfl
    | some old => rw [hcm] at hc; exact subset_without hc
  · obtain ⟨h1, h2, h3⟩ := hp hy
    exact ⟨h1, by simp [Lease.without, h2], h3⟩
  · simpa [Lease.without] using (hn hy).2

section shed
variable {s : State} {v : SlotNo} {l : Lease} {shed : Word}

/-- The part after the channels of `shed` have left the lease of slot `v`. -/
abbrev State.shedFrom (s : State) (v : SlotNo) (shed : Word) : State :=
  (s.mapSet shed Channel.leave).modifyLease v (Lease.without shed)

theorem shedFrom_channel (s : State) (v : SlotNo) (shed : Word) (c : ChannelNo) : (s.shedFrom v shed).channel c =
    if inSet shed c then { s.channel c with state := (s.channel c).leave } else s.channel c :=
  mapSet_channel s shed _ c

theorem shedFrom_link (s : State) (v : SlotNo) (shed : Word) (c : ChannelNo) (u : SlotNo) :
    ((s.shedFrom v shed).channel c).state.link = some u ↔ inSet shed c = false ∧ (s.channel c).state.link = some u := by
  rw [shedFrom_channel]
  split
  · simp [leave_link, *]
  · simp [*]

theorem inSet_without {c : ChannelNo} :
    inSet (l.without shed).set c = true ↔ inSet l.set c = true ∧ inSet shed c = false := by
  simp [Lease.without]

theorem shedFrom_lawApart (h : s.tableLaw) (hl : s.lease? v = some l) (hx : l.state ≠ .waiting)
    (hs : subset shed l.set = true) : (s.shedFrom v shed).lawApart {v} := by
  have hapart : s.queueApart v := queueApart_of_queueLaw h.1 fun m hm => by
    obtain rfl : l = m := Option.some_inj.1 (hl.symm.trans hm)
    exact hx
  have hne : ∀ u, u ≠ v → (s.shedFrom v shed).lease? u = s.lease? u := fun u hu => modifyLease_lease_ne _ hu _
  refine lawApart_local (lawApart_of_tableLaw h {v}) (queueLaw_of_queueApart (queueApart_congr hapart rfl hne)
    fun m hm => ?_) hne id fun c => ?_
  · have hself : (s.shedFrom v shed).lease? v = some (l.without shed) := by simp [hl]
    obtain rfl : l.without shed = m := Option.some_inj.1 (hself.symm.trans hm)
    exact hx
  · rw [shedFrom_channel]
    split
    · rename_i hc
      have hlink := link_of_inSet (tableLaw_iff.1 h) hl (Set.notMem_empty v) hx ((subset_iff _ _).1 hs c hc)
      refine .inr ⟨fun u hu => (Option.some_inj.1 (hlink.symm.trans hu)).symm, fun u hu => by simp [leave_link] at hu⟩
    · exact .inl rfl

/-- A HELD or SUSPENDED lease keeps the rest of its set as it was (R78). -/
theorem shedFrom_tableLaw (h : s.tableLaw) (hl : s.lease? v = some l) (hx : l.state = .held ∨ l.state = .suspended)
    (hs : subset shed l.set = true) : (s.shedFrom v shed).tableLaw := by
  have hw : l.state ≠ .waiting := by rcases hx with hx | hx <;> simp [hx]
  have hself : (s.shedFrom v shed).lease? v = some (l.without shed) := by simp [hl]
  obtain ⟨-, -, hheld, hsusp⟩ := (tableLaw_iff.1 h).set hl (Set.notMem_empty v)
  refine tableLaw_restore (shedFrom_lawApart h hl hw hs) (fun c hc => ?_) fun m hm => ?_
  · obtain ⟨hns, hc⟩ := (shedFrom_link s v shed c v).1 hc
    obtain ⟨m, hm, hcs, ha⟩ := h.2.1 c v hc
    obtain rfl : l = m := Option.some_inj.1 (hl.symm.trans hm)
    refine ⟨_, hself, inSet_without.2 ⟨hcs, hns⟩, ?_⟩
    rw [shedFrom_channel, hns]
    exact ha
  · obtain rfl : l.without shed = m := Option.some_inj.1 (hself.symm.trans hm)
    have hstate : (l.without shed).state = l.state := rfl
    simp only [State.setLaw, hstate]
    refine ⟨fun hy => absurd hy hw, fun hy => by rcases hx with hx | hx <;> simp [hx] at hy, fun hy c hc => ?_,
      fun hy => ⟨(hsusp hy).1, fun c hc => ?_⟩⟩
    · obtain ⟨hcs, hns⟩ := inSet_without.1 hc
      exact (shedFrom_link s v shed c v).2 ⟨hns, hheld hy c hcs⟩
    · obtain ⟨hcs, hns⟩ := inSet_without.1 hc
      rw [shedFrom_channel, hns]
      exact (hsusp hy).2 c hcs

/-- A GRANTING lease has its whole set reserved to it (R28). -/
theorem reservedTo_of_tableLaw (h : s.tableLaw) (hl : s.lease? v = some l) (hx : l.state = .granting) :
    s.reservedTo v l := by
  refine ⟨lawApart_of_tableLaw h {v}, hl, hx, fun {c} hc => ?_, fun {c} hc => ?_⟩
  · obtain ⟨m, hm, hcs, -⟩ := h.2.1 c v hc
    obtain rfl : l = m := Option.some_inj.1 (hl.symm.trans hm)
    exact hcs
  · have hlink := link_of_inSet (tableLaw_iff.1 h) hl (Set.notMem_empty v) (by simp [hx]) hc
    obtain ⟨m, hm, -, ha⟩ := h.2.1 c v hlink
    obtain rfl : l = m := Option.some_inj.1 (hl.symm.trans hm)
    cases hy : (s.channel c).state <;> rw [hy, hx] at ha <;> rw [hy] at hlink <;> cases hlink <;>
      first | exact .inl rfl | exact .inr ⟨_, _, rfl⟩ | cases ha

theorem shedFrom_reservedTo (h : s.tableLaw) (hl : s.lease? v = some l) (hx : l.state = .granting)
    (hs : subset shed l.set = true) : (s.shedFrom v shed).reservedTo v (l.without shed) := by
  have hr := reservedTo_of_tableLaw h hl hx
  refine ⟨shedFrom_lawApart h hl (by simp [hx]) hs, by simp [hl], hx, fun {c} hc => ?_, fun {c} hc => ?_⟩
  · obtain ⟨hns, hc⟩ := (shedFrom_link s v shed c v).1 hc
    exact inSet_without.2 ⟨hr.mem hc, hns⟩
  · obtain ⟨hcs, hns⟩ := inSet_without.1 hc
    rw [shedFrom_channel, hns]
    exact hr.state hcs

/-- A WAITING lease loses the channels from its record alone (R79). -/
theorem shedWaiting_tableLaw (h : s.tableLaw) (hl : s.lease? v = some l) (hx : l.state = .waiting) :
    (s.modifyLease v (Lease.without shed)).tableLaw := by
  have hself : (s.modifyLease v (Lease.without shed)).lease? v = some (l.without shed) := by simp [hl]
  have hpr : ∀ u, (s.modifyLease v (Lease.without shed)).priorityOf u = s.priorityOf u := fun u => by
    by_cases hu : u = v
    · subst hu; rw [priorityOf_eq hself, priorityOf_eq hl]; rfl
    · exact priorityOf_of_lease (modifyLease_lease_ne s hu _)
  have hqueue : (s.modifyLease v (Lease.without shed)).queueLaw := by
    obtain ⟨hn, hm, hp⟩ := h.1
    refine ⟨hn, fun u => ?_, hp.imp fun {a b} hab => by rw [hpr, hpr]; exact hab⟩
    rw [modifyLease_waitQueue, hm u]
    by_cases hu : u = v
    · subst hu
      exact ⟨fun _ => ⟨_, hself, hx⟩, fun _ => ⟨l, hl, hx⟩⟩
    · rw [modifyLease_lease_ne s hu]
  exact tableLaw_iff.2 (lawApart_restore_waiting (v := v) (lawApart_local (lawApart_of_tableLaw h _) hqueue
    (fun u hu => modifyLease_lease_ne s (fun huv => hu (.inl huv)) _) id fun c => .inl rfl)
    (((tableLaw_iff.1 h).set hl (Set.notMem_empty v)).1 hx) hself hx)

theorem lawful_shedChannels (h : s.lawful) (hl : s.lease? v = some l) (hs : subset shed l.set = true)
    (hne : shed ≠ l.set) : (s.shedChannels shed v l).lawful := by
  have hrec : (s.shedFrom v shed).recordLaw :=
    recordLaw_modifyLease (s := s.mapSet shed Channel.leave) h.record fun m hm hr => by
      obtain rfl : l = m := Option.some_inj.1 (hl.symm.trans hm)
      exact without_recordLaw hr hs hne
  unfold State.shedChannels
  split
  · rename_i hx
    refine ⟨shedWaiting_tableLaw h.table hl hx, recordLaw_modifyLease h.record fun m hm hr => ?_⟩
    obtain rfl : l = m := Option.some_inj.1 (hl.symm.trans hm)
    exact without_recordLaw hr hs hne
  · rename_i hx
    exact ⟨shedFrom_tableLaw h.table hl (.inl hx) hs, hrec⟩
  · rename_i hx
    exact ⟨shedFrom_tableLaw h.table hl (.inr hx) hs, hrec⟩
  · rename_i hx
    exact lawful_holdUnlessBreak hrec (shedFrom_reservedTo h.table hl hx hs) none

end shed

theorem lawful_shed {s : State} (h : s.lawful) (p : HostNo) (seq : Byte) (set : Word) {v : SlotNo} {l : Lease}
    (hl : s.lease? v = some l) : (s.shed p seq set v l).lawful := by
  unfold State.shed
  split
  · exact lawful_refuse h _ _ _
  · rename_i hs
    split
    · exact lawful_refuse h _ _ _
    · rename_i hb
      exact lawful_answer (lawful_pass (lawful_shedChannels h hl (by simpa using hs) fun he => hb (.inr he)) _) _ _ _ _

end Sys2Proof.Machine
end

section
/-! PROOFS. The rest of the commands and events keep the law of the table and of the lease records, and so does every step
(TableLawKept). -/

namespace Sys2Proof.Machine

/-! ### ALTER -/

/-- A lease record rewritten in the fields that say nothing of its channels; its place in the queue is `hq`'s matter. -/
theorem tableLaw_of_rewrite {s t : State} {v : SlotNo} {l m : Lease} (h : s.tableLaw) (hl : s.lease? v = some l)
    (hm : t.lease? v = some m) (hx : m.state = l.state) (hset : m.set = l.set) (hne : ∀ u, u ≠ v → t.lease? u = s.lease? u)
    (hc : t.channels = s.channels) (hi : t.inhibit = s.inhibit) (hq : t.queueLaw) : t.tableLaw := by
  have hch : ∀ c, t.channel c = s.channel c := fun c => by rw [State.channel, hc]; rfl
  refine tableLaw_restore (v := v) (lawApart_local (lawApart_of_tableLaw h {v}) hq hne (hi ▸ id) fun c => .inl (by rw [hch]))
    (fun c hcv => ?_) fun m' hm' => ?_
  · rw [hch] at hcv ⊢
    obtain ⟨l', hl', hcs, ha⟩ := h.2.1 c v hcv
    obtain rfl : l = l' := Option.some_inj.1 (hl.symm.trans hl')
    exact ⟨m, hm, hset ▸ hcs, hx ▸ ha⟩
  · obtain rfl : m = m' := Option.some_inj.1 (hm.symm.trans hm')
    have := h.2.2 v l hl
    simpa only [State.setLaw, hx, hset, hch, hi] using this

/-- A lease record with its competition fields rewritten (R82). -/
def Lease.competing (pr : Priority) (preemptible requeue : Bool) (l : Lease) : Lease :=
  { l with priority := pr, preemptible := preemptible, requeue := requeue }

theorem writeCompetition_eq (s : State) (v : SlotNo) (l : Lease) (pr : Priority) (preemptible requeue : Bool) :
    s.writeCompetition v l pr preemptible requeue = if l.state = .waiting ∧ l.priority ≠ pr then
      ((s.dequeue v).modifyLease v (Lease.competing pr preemptible requeue)).enqueueBack v pr
    else s.modifyLease v (Lease.competing pr preemptible requeue) := rfl

theorem writeCompetition_tableLaw {s : State} (h : s.tableLaw) {v : SlotNo} {l : Lease} (hl : s.lease? v = some l)
    (pr : Priority) (preemptible requeue : Bool) : (s.writeCompetition v l pr preemptible requeue).tableLaw := by
  have hself : (s.modifyLease v (Lease.competing pr preemptible requeue)).lease? v =
      some (l.competing pr preemptible requeue) := by simp [hl]
  have hne : ∀ u, u ≠ v → (s.modifyLease v (Lease.competing pr preemptible requeue)).lease? u = s.lease? u :=
    fun u hu => modifyLease_lease_ne s hu _
  rw [writeCompetition_eq]
  split
  · rename_i hmove
    have hapart : ((s.dequeue v).modifyLease v (Lease.competing pr preemptible requeue)).queueApart v :=
      queueApart_congr (dequeue_queueApart h.1 v) rfl fun u hu => modifyLease_lease_ne _ hu _
    exact tableLaw_of_rewrite h hl hself rfl rfl hne rfl rfl (queueLaw_of_insert hapart rfl (fun _ _ => rfl) hself hmove.1
      (fun u _ hp => of_decide_eq_true hp) fun u _ hp => (not_le.1 (of_decide_eq_false hp)).le)
  · rename_i hstay
    by_cases hw : l.state = .waiting
    · have hpr : l.priority = pr := by_contra fun hne => hstay ⟨hw, hne⟩
      refine tableLaw_of_sameTable (sameTable_modifyLease fun m hm => ?_) h
      obtain rfl : l = m := Option.some_inj.1 (hl.symm.trans hm)
      simp [Lease.core, Lease.competing, hpr]
    · have hapart : s.queueApart v := queueApart_of_queueLaw h.1 fun m hm => by
        obtain rfl : l = m := Option.some_inj.1 (hl.symm.trans hm)
        exact hw
      refine tableLaw_of_rewrite h hl hself rfl rfl hne rfl rfl
        (queueLaw_of_queueApart (queueApart_congr hapart rfl hne) fun m hm => ?_)
      obtain rfl := Option.some_inj.1 (hself.symm.trans hm)
      exact hw

theorem lawful_writeCompetition {s : State} (h : s.lawful) {v : SlotNo} {l : Lease} (hl : s.lease? v = some l)
    (pr : Priority) (preemptible requeue : Bool) : (s.writeCompetition v l pr preemptible requeue).lawful := by
  refine ⟨writeCompetition_tableLaw h.table hl pr preemptible requeue, ?_⟩
  rw [writeCompetition_eq]
  split
  · exact recordLaw_modifyLease (s := s.dequeue v) h.record fun _ _ hr => hr
  · exact recordLaw_modifyLease h.record fun _ _ hr => hr

theorem lawful_alter {s : State} (h : s.lawful) (p : HostNo) (seq comp : Byte) {v : SlotNo} {l : Lease}
    (hl : s.lease? v = some l) : (s.alter p seq comp v l).lawful := by
  unfold State.alter
  split
  · exact lawful_refuse h _ _ _
  · split
    · exact lawful_refuse h _ _ _
    · exact lawful_answer (lawful_pass (lawful_writeCompetition h hl _ _ _) _) _ _ _ _

/-! ### The commands that end leases -/

theorem lawful_endQuietly {s : State} (h : s.lawful) (v : SlotNo) : (s.endQuietly v).lawful := by
  cases hl : s.lease? v with
  | some l => exact endQuietly_eq hl ▸ lawful_withoutLease h hl
  | none =>
    have he : s.endQuietly v = s.freeSlot v := by simp only [State.endQuietly, State.takeOut, hl]
    have hlease : ∀ u, (s.freeSlot v).lease? u = s.lease? u := fun u => by
      by_cases hu : u = v
      · rw [hu, freeSlot_lease_self, hl]
      · exact freeSlot_lease_ne s hu
    rw [he]
    exact ⟨tableLaw_of_sameTable (s := s) ⟨rfl, fun u => by rw [hlease], fun _ => rfl, id⟩ h.table,
      recordLaw_of_lease h.record fun u l hu => .inl (hlease u ▸ hu)⟩

theorem lawful_releaseAll {s : State} (h : s.lawful) (p : HostNo) (seq : Byte) : (s.releaseAll p seq).lawful := by
  have key : ∀ (vs : List SlotNo) {u : State}, u.lawful → (vs.foldl State.endQuietly u).lawful := by
    intro vs
    induction vs with
    | nil => exact fun hu => hu
    | cons v vs ih => exact fun hu => ih (lawful_endQuietly hu v)
  exact lawful_answer (lawful_pass (key _ h) _) _ _ _ _

theorem lawful_revoke {s : State} (h : s.lawful) (p : HostNo) (seq slot gen : Byte) : (s.revoke p seq slot gen).lawful := by
  unfold State.revoke
  split
  · exact lawful_refuse h _ _ _
  · split
    · exact lawful_refuse h _ _ _
    · exact lawful_answer (lawful_pass (lawful_endLease h _ _) _) _ _ _ _

/-! ### Queries, notices and configuration -/

theorem lawful_queryLease {s : State} (h : s.lawful) (p : HostNo) (seq slot gen : Byte) :
    (s.queryLease p seq slot gen).lawful := by
  unfold State.queryLease
  split
  · exact lawful_refuse h _ _ _
  · exact lawful_answer h _ _ _ _

theorem lawful_listLeases {s : State} (h : s.lawful) (p : HostNo) (seq start : Byte) :
    (s.listLeases p seq start).lawful := by
  unfold State.listLeases
  split
  · exact lawful_refuse h _ _ _
  · exact lawful_answer h _ _ _ _

theorem lawful_queryChannel {s : State} (h : s.lawful) (p : HostNo) (seq channel : Byte) :
    (s.queryChannel p seq channel).lawful := by
  unfold State.queryChannel
  split
  · exact lawful_refuse h _ _ _
  · exact lawful_answer h _ _ _ _

theorem lawful_readHost {s : State} (h : s.lawful) (p : HostNo) (seq host : Byte) : (s.readHost p seq host).lawful := by
  unfold State.readHost
  split
  · exact lawful_refuse h _ _ _
  · exact lawful_answer h _ _ _ _

theorem lawful_readNotice {s : State} (h : s.lawful) (p : HostNo) (seq : Byte) : (s.readNotice p seq).lawful := by
  unfold State.readNotice
  split
  · exact lawful_answer h _ _ _ _
  · exact lawful_answer (lawful_modifyHost h _ _) _ _ _ _

theorem lawful_setNotices {s : State} (h : s.lawful) (p : HostNo) (seq : Byte) (mask : Word) (lead : Byte) :
    (s.setNotices p seq mask lead).lawful := by
  unfold State.setNotices
  split
  · exact lawful_refuse h _ _ _
  · exact lawful_answer (lawful_modifyHost h _ _) _ _ _ _

theorem lawful_setHost {s : State} (h : s.lawful) (p : HostNo) (seq host quota ceiling rights : Byte) :
    (s.setHost p seq host quota ceiling rights).lawful := by
  unfold State.setHost
  repeat' split
  all_goals first | exact lawful_refuse h _ _ _ | exact lawful_answer (lawful_modifyHost h _ _) _ _ _ _

/-- A LOCKED_OUT channel that is made FREE, and any other that stands. -/
theorem unlock_link (x : ChannelState) :
    (if x = .lockedOut then ChannelState.free else x) = x ∨
      x.link = none ∧ (if x = .lockedOut then ChannelState.free else x).link = none := by
  by_cases hx : x = .lockedOut
  · simp [hx, ChannelState.link]
  · simp [hx]

theorem lawful_clearFault {s : State} (h : s.lawful) (p : HostNo) (seq channel : Byte) :
    (s.clearFault p seq channel).lawful := by
  unfold State.clearFault
  split
  · exact lawful_refuse h _ _ _
  split
  · exact lawful_refuse h _ _ _
  split
  · exact lawful_refuse h _ _ _
  split
  · exact lawful_refuse h _ _ _
  · exact lawful_answer (lawful_pass (lawful_modifyChannel h (unlock_link _)) _) _ _ _ _

/-- A channel that is FREE or LOCKED_OUT is one of the two after SET_CHANNEL, and so linked to none (R8, R130). -/
theorem configure_link {ch : Channel} (h : ch.state = .free ∨ ch.state = .lockedOut) (k : ChannelConfig) :
    (ch.configure k).state.link = none := by
  unfold Channel.configure
  split
  · rcases h with h | h <;> simp [h, ChannelState.link]
  · split
    · rcases h with h | h <;> simp [h, ChannelState.link]
    · rcases h with h | h <;> simp [h, ChannelState.link]
    · dsimp only
      split
      · rfl
      · rcases h with h | h <;> simp [h, ChannelState.link]

theorem free_or_lockedOut {x : ChannelState} (h : ¬(x ≠ .free ∧ x ≠ .lockedOut)) : x = .free ∨ x = .lockedOut := by
  tauto

theorem lawful_setChannel {s : State} (h : s.lawful) (p : HostNo)
    (seq channel flags breakTime settleTime threshold : Byte) :
    (s.setChannel p seq channel flags breakTime settleTime threshold).lawful := by
  unfold State.setChannel
  split
  · exact lawful_refuse h _ _ _
  split
  · rename_i c k _ _
    split
    · exact lawful_refuse h _ _ _
    rename_i hx
    have hx := free_or_lockedOut hx
    split
    · exact lawful_refuse h _ _ _
    have hs : (s.modifyChannel c (Channel.configure k)).lawful :=
      lawful_modifyChannel h (.inr ⟨by rcases hx with hx | hx <;> rw [hx] <;> rfl, configure_link hx k⟩)
    dsimp only
    split
    · exact lawful_answer (lawful_pass hs _) _ _ _ _
    · exact lawful_answer hs _ _ _ _
  · exact lawful_refuse h _ _ _

theorem clearTable_channel (s : State) (c : ChannelNo) :
    s.clearTable.channel c = { s.channel c with state := (s.channel c).leave } := bank_get _ c

theorem clearTable_slot (s : State) (v : SlotNo) : s.clearTable.slot v = (s.slot v).clear := bank_get _ v

theorem clear_lease (x : Slot) : x.clear.lease = none := by
  unfold Slot.clear
  split
  · rfl
  · assumption

theorem lawful_clearTable (s : State) : s.clearTable.lawful :=
  lawful_of_no_lease (fun v => by rw [State.lease?, clearTable_slot, clear_lease]) rfl fun c => by
    rw [clearTable_channel]; exact leave_link _

theorem lawful_tableReset {s : State} (h : s.lawful) (p : HostNo) (seq : Byte) : (s.tableReset p seq).lawful := by
  unfold State.tableReset
  split
  · exact lawful_refuse h _ _ _
  · exact lawful_answer (lawful_clearTable s) _ _ _ _

theorem lawful_completeReset (s : State) : s.completeReset.lawful :=
  lawful_of_no_lease (fun v => by
    have hs : s.completeReset.slot v = Slot.reset := bank_get _ v
    rw [State.lease?, hs]; rfl) rfl fun c => by
    have hc : s.completeReset.channel c = Channel.reset := bank_get _ c
    rw [hc]; rfl

/-! ### The timed events -/

theorem held_or_suspended_of_due {l : Lease} (h : l.termStepDue = true) : l.state = .held ∨ l.state = .suspended := by
  unfold Lease.termStepDue at h
  cases hx : l.state <;> simp [hx, LeaseState.runsTerm] at h ⊢

theorem waiting_of_due {l : Lease} (h : l.waitStepDue = true) : l.state = .waiting := by
  simp only [Lease.waitStepDue, Bool.and_eq_true, beq_iff_eq] at h
  exact h.1

theorem lawful_termStep {s : State} (h : s.lawful) (v : SlotNo) : (s.termStep v).lawful := by
  unfold State.termStep
  split
  · exact h
  · rename_i l hl
    split
    · rename_i hd
      have hx := held_or_suspended_of_due hd
      split
      · exact lawful_pass (lawful_endLease h _ _) _
      · rename_i hr
        refine lawful_warningCheck (l := { l with remaining := l.remaining - 1, stepMs := 0 })
          (lawful_modifyLease h (fun _ _ => by rfl) fun m hm hlaw => ?_) (by simp [hl]) hx
        obtain rfl : l = m := Option.some_inj.1 (hl.symm.trans hm)
        obtain ⟨hset, ht, ht', hmw, hwr, hrm, hi, hc, hp, hw, hn⟩ := hlaw
        refine ⟨hset, ht, ht', hmw, hwr, (Nat.sub_le _ _).trans hrm, hi, hc, fun hy => ?_, hw, fun hy => ⟨?_, (hn hy).2⟩⟩
        · have hy : l.state = .waiting ∨ l.state = .granting := hy
          rcases hx with hx | hx <;> simp [hx] at hy
        · dsimp only
          omega
    · exact h

theorem lawful_waitStep {s : State} (h : s.lawful) (v : SlotNo) : (s.waitStep v).lawful := by
  unfold State.waitStep
  split
  · exact h
  · rename_i l hl
    split
    · rename_i hd
      have hx := waiting_of_due hd
      split
      · exact lawful_pass (lawful_endLease h _ _) _
      · refine lawful_modifyLease h (fun _ _ => by rfl) fun m hm hlaw => ?_
        obtain rfl : l = m := Option.some_inj.1 (hl.symm.trans hm)
        obtain ⟨hset, ht, ht', hmw, hwr, hrm, hi, hc, hp, hw, hn⟩ := hlaw
        exact ⟨hset, ht, ht', hmw, (Nat.sub_le _ _).trans hwr, hrm, hi, hc, hp, fun hy => absurd hx hy, hn⟩
    · exact h

theorem lawful_expiryEvent {s : State} (h : s.lawful) (v : SlotNo) : (s.expiryEvent v).lawful := by
  unfold State.expiryEvent
  split
  · exact h
  · split
    · exact lawful_pass (lawful_endLease h _ _) _
    · exact h

theorem lawful_timeoutEvent {s : State} (h : s.lawful) (v : SlotNo) : (s.timeoutEvent v).lawful := by
  unfold State.timeoutEvent
  split
  · exact h
  · split
    · exact lawful_pass (lawful_endLease h _ _) _
    · exact h

/-- The end of a reserved break leaves the GRANTING lease with its set reserved to it (R15, R63). -/
theorem endBreak_reservedTo {s : State} (h : s.tableLaw) {c : ChannelNo} {v : SlotNo} {r ms : Nat}
    (hc : (s.channel c).state = .brk (some v) r ms) {l : Lease} (hl : s.lease? v = some l) :
    (s.modifyChannel c fun ch => { ch with state := ch.endBreak }).reservedTo v l := by
  have hlink : (s.channel c).state.link = some v := by rw [hc]; rfl
  obtain ⟨m, hm, -, ha⟩ := h.2.1 c v hlink
  obtain rfl : l = m := Option.some_inj.1 (hl.symm.trans hm)
  have hx : l.state = .granting := by
    rw [hc] at ha
    simpa [ChannelState.allowsLink] using ha
  have hr := reservedTo_of_tableLaw h hl hx
  have hself : ((s.modifyChannel c fun ch => { ch with state := ch.endBreak }).channel c).state = .reserved v := by
    rw [modifyChannel_channel_self, Channel.endBreak, hc]
  have hne : ∀ {d}, d ≠ c → (s.modifyChannel c fun ch => { ch with state := ch.endBreak }).channel d = s.channel d :=
    fun {d} hd => modifyChannel_channel_ne s hd _
  refine ⟨lawApart_local hr.apart h.1 (fun _ _ => rfl) id fun d => ?_, hl, hx, fun {d} hd => ?_, fun {d} hd => ?_⟩
  · by_cases hdc : d = c
    · subst hdc
      refine .inr ⟨fun u hu => (Option.some_inj.1 (hlink.symm.trans hu)).symm, fun u hu => ?_⟩
      rw [hself] at hu
      exact (Option.some_inj.1 hu).symm
    · exact .inl (by rw [hne hdc])
  · by_cases hdc : d = c
    · subst hdc; exact hr.mem hlink
    · rw [hne hdc] at hd; exact hr.mem hd
  · by_cases hdc : d = c
    · subst hdc; exact .inl hself
    · rw [hne hdc]; exact hr.state hd

theorem lawful_endBreak {s : State} (h : s.lawful) {c : ChannelNo} {link : Option SlotNo} {r ms : Nat}
    (hc : (s.channel c).state = .brk link r ms) : (s.endBreak c link).lawful := by
  unfold State.endBreak
  cases link with
  | none =>
    refine lawful_pass (lawful_modifyChannel h (.inr ?_)) _
    simp [Channel.endBreak, hc, ChannelState.link]
  | some v =>
    obtain ⟨l, hl, -⟩ := h.table.2.1 c v (by rw [hc]; rfl)
    have hr := endBreak_reservedTo h.table hc hl
    simp only [State.breakEnded, modifyChannel_lease, show s.lease? v = some l from hl]
    exact lawful_holdUnlessBreak (s := s.modifyChannel c fun ch => { ch with state := ch.endBreak }) h.record hr none

theorem lawful_breakCountdown {s : State} (h : s.lawful) (c : ChannelNo) : (s.breakCountdown c).lawful := by
  unfold State.breakCountdown
  split
  case h_1 link remaining ms hc =>
    split
    · split
      · exact lawful_endBreak h hc
      · refine lawful_of_sameTable h ⟨rfl, fun _ => rfl, fun d => ?_, id⟩ rfl
        rw [modifyChannel_channel]
        split
        · rename_i hd
          rw [hd, hc]
          rfl
        · rfl
    · exact h
  all_goals exact h

theorem lawful_breakEndReserved {s : State} (h : s.lawful) (c : ChannelNo) : (s.breakEndReserved c).lawful := by
  unfold State.breakEndReserved
  split
  case h_1 v remaining ms hc =>
    split
    · exact lawful_endBreak h hc
    · exact h
  all_goals exact h

theorem lawful_breakEndUnreserved {s : State} (h : s.lawful) (c : ChannelNo) : (s.breakEndUnreserved c).lawful := by
  unfold State.breakEndUnreserved
  split
  case h_1 remaining ms hc =>
    split
    · exact lawful_endBreak h hc
    · exact h
  all_goals exact h

theorem lawful_settleTick {s : State} (h : s.lawful) : s.settleTick.lawful :=
  lawful_of_sameTable h ⟨rfl, fun _ => rfl, fun c => by rw [State.settleTick, mapChannels_channel], id⟩ rfl

/-! ### Supervision -/

theorem linkedLease_eq_some {s : State} {c : ChannelNo} {v : SlotNo} {l : Lease} (h : s.linkedLease c = some (v, l)) :
    (s.channel c).state.link = some v ∧ s.lease? v = some l := by
  unfold State.linkedLease at h
  split at h
  · cases h
  · rename_i u hu
    obtain ⟨m, hm, he⟩ := Option.map_eq_some_iff.1 h
    cases he
    exact ⟨hu, hm⟩

/-- Under the law of the table a channel without a linked lease has no link (R1). -/
theorem link_of_linkedLease_none {s : State} (h : s.tableLaw) {c : ChannelNo} (hc : s.linkedLease c = none) :
    (s.channel c).state.link = none := by
  cases hx : (s.channel c).state.link with
  | none => rfl
  | some v =>
    obtain ⟨l, hl, -⟩ := h.2.1 c v hx
    have hl : s.lease? v = some l := hl
    simp [State.linkedLease, hx, hl] at hc

theorem takeOut_lockOut (s : State) (c : ChannelNo) (v : SlotNo) : (s.lockOut c).takeOut v = (s.takeOut v).lockOut c := by
  unfold State.takeOut
  rw [show (s.lockOut c).lease? v = s.lease? v from rfl]
  split
  · rfl
  · rename_i l _
    split
    · rfl
    · apply state_ext <;> intros <;> try rfl
      rename_i d
      simp only [State.lockOut, mapSet_channel, modifyChannel_channel]
      by_cases hd : d = c
      · subst hd
        cases hc : inSet l.set d <;> simp [Channel.leave]
      · simp [hd]

/-- A lockout and the end of a lease do not meet: a channel that is locked out stays so when it leaves (R12, R124). -/
theorem endLease_lockOut (s : State) (c : ChannelNo) (v : SlotNo) (n : Notice) :
    (s.lockOut c).endLease v n = (s.endLease v n).lockOut c := by
  unfold State.endLease
  rw [show (s.lockOut c).lease? v = s.lease? v from rfl, takeOut_lockOut]
  split <;> rfl

/-- The end of the lease that a channel is linked to leaves the channel without a link (R37). -/
theorem endLease_unlinks {s : State} (h : s.tableLaw) {c : ChannelNo} {v : SlotNo}
    (hc : (s.channel c).state.link = some v) (n : Notice) : ((s.endLease v n).channel c).state.link = none := by
  obtain ⟨l, hl, hcs, hw⟩ := not_waiting_of_link (tableLaw_iff.1 h) (Set.notMem_empty v) hc
  rw [endLease_eq hl, notify_channel, withoutLease_channel hw, if_pos hcs]
  exact leave_link _

theorem lawful_lockOut {s : State} (h : s.lawful) {c : ChannelNo} (hc : (s.channel c).state.link = none) :
    (s.lockOut c).lawful :=
  lawful_modifyChannel h (.inr ⟨hc, rfl⟩)

theorem sameTable_reportFault (s : State) (c : ChannelNo) (kind : FaultKind) (linked : Option (SlotNo × Lease)) :
    s.sameTable (s.reportFault c kind linked) := by
  unfold State.reportFault
  split
  · exact sameTable_notify s _ _
  · exact sameTable_notifyAll s _

theorem sameTable_modifyFault (s : State) (c : ChannelNo) (f : Channel → FaultRecord) :
    s.sameTable (s.modifyChannel c fun ch => { ch with fault := f ch }) := by
  refine ⟨rfl, fun _ => rfl, fun d => ?_, id⟩
  rw [modifyChannel_channel]
  split <;> rfl

theorem lawful_reportFault {s : State} (h : s.lawful) (c : ChannelNo) (kind : FaultKind) (linked : Option (SlotNo × Lease)) :
    (s.reportFault c kind linked).lawful := by
  unfold State.reportFault
  split
  · exact lawful_notify h _ _
  · exact lawful_notifyAll h _

theorem lawful_applyPolicy {s : State} (h : s.lawful) (c : ChannelNo) (kind : FaultKind) :
    (s.applyPolicy c kind (s.linkedLease c)).lawful := by
  unfold State.applyPolicy
  split
  · exact h
  · exact h
  · exact lawful_pass (lawful_endLease h _ _) _
  · rename_i hn
    exact lawful_lockOut h (link_of_linkedLease_none h.table hn)
  · rename_i v l hs
    unfold State.revokeForFault
    rw [endLease_lockOut]
    exact lawful_pass (lawful_lockOut (lawful_endLease h _ _)
      (endLease_unlinks h.table (linkedLease_eq_some hs).1 _)) _

theorem reportFault_linkedLease (s : State) (c d : ChannelNo) (kind : FaultKind) (linked : Option (SlotNo × Lease)) :
    (s.reportFault c kind linked).linkedLease d = s.linkedLease d := by
  unfold State.reportFault
  split <;> rfl

theorem linkedLease_modifyFault (s : State) (c : ChannelNo) (f : Channel → FaultRecord) :
    (s.modifyChannel c fun ch => { ch with fault := f ch }).linkedLease c = s.linkedLease c := by
  simp only [State.linkedLease, modifyChannel_channel_self, modifyChannel_lease]

theorem lawful_modifyFault {s : State} (h : s.lawful) (c : ChannelNo) (f : Channel → FaultRecord) :
    (s.modifyChannel c fun ch => { ch with fault := f ch }).lawful :=
  lawful_of_sameTable h (sameTable_modifyFault s c f) rfl

theorem lawful_confirm {s : State} (h : s.lawful) (c : ChannelNo) (kind : FaultKind) (n : Nat) :
    (s.confirm c kind n).lawful := by
  unfold State.confirm
  dsimp only
  have hr := lawful_reportFault (lawful_modifyFault h c fun _ =>
    { state := .faulted, count := n, kind := kind, present := true }) c kind (s.linkedLease c)
  have hp := lawful_applyPolicy hr c kind
  rwa [reportFault_linkedLease, linkedLease_modifyFault] at hp

theorem lawful_countDisagreement {s : State} (h : s.lawful) (c : ChannelNo) (n : Nat) :
    (s.countDisagreement c n).lawful := by
  unfold State.countDisagreement
  dsimp only
  split
  · exact lawful_confirm h c _ n
  · exact lawful_modifyFault h c _

theorem lawful_compare {s : State} (h : s.lawful) (c : ChannelNo) (disagrees : Bool) : (s.compare c disagrees).lawful := by
  unfold State.compare
  dsimp only
  split
  · exact lawful_modifyFault h c _
  · split
    · exact lawful_countDisagreement h c _
    · exact h
  · split
    · exact lawful_countDisagreement h c _
    · exact lawful_modifyFault h c _

theorem lawful_sweepVisit {s : State} (h : s.lawful) : s.sweepVisit.lawful := by
  have hs : ({ s with sweep := s.sweep + 1 } : State).lawful := lawful_of_sameParts (s := s) ⟨rfl, rfl, rfl, rfl, rfl⟩ h
  unfold State.sweepVisit State.visit
  dsimp only
  split
  · exact lawful_compare hs _ _
  · exact hs

/-! ### Inhibit -/

theorem mapLeaseStates_lease (s : State) (f : LeaseState → LeaseState) (v : SlotNo) :
    (s.mapLeaseStates f).lease? v = (s.lease? v).map fun l => { l with state := f l.state } :=
  congrArg Slot.lease (bank_get _ v)

@[simp] theorem mapLeaseStates_channel (s : State) (f : LeaseState → LeaseState) (c : ChannelNo) :
    (s.mapLeaseStates f).channel c = s.channel c := rfl
@[simp] theorem qualify_channel (s : State) (b : Bool) (c : ChannelNo) : (s.qualify b).channel c = s.channel c := rfl

/-- A change of the lease states that neither starts nor ends a wait leaves the queue in order. -/
theorem mapLeaseStates_queueLaw {s : State} (h : s.queueLaw) {f : LeaseState → LeaseState}
    (hf : ∀ x, f x = .waiting ↔ x = .waiting) : (s.mapLeaseStates f).queueLaw := by
  obtain ⟨hn, hm, hp⟩ := h
  refine ⟨hn, fun v => ?_, hp.imp fun {a b} hab => ?_⟩
  · rw [mapLeaseStates_lease, show (s.mapLeaseStates f).waitQueue = s.waitQueue from rfl, hm v]
    simp only [Option.mem_def, Option.map_eq_some_iff]
    constructor
    · rintro ⟨l, hl, hw⟩
      exact ⟨_, ⟨l, hl, rfl⟩, (hf _).2 hw⟩
    · rintro ⟨_, ⟨l, hl, rfl⟩, hw⟩
      exact ⟨l, hl, (hf _).1 hw⟩
  · have hpr : ∀ u, (s.mapLeaseStates f).priorityOf u = s.priorityOf u := fun u => by
      simp only [State.priorityOf, mapLeaseStates_lease]
      cases s.lease? u <;> rfl
    rwa [hpr, hpr]

theorem suspend_link (ch : Channel) : ch.suspend.link = ch.state.link := by
  unfold Channel.suspend
  split <;> rename_i hx <;> simp [hx, ChannelState.link]

theorem suspend_isBreak (ch : Channel) : ch.suspend.isBreak = ch.state.isBreak := by
  unfold Channel.suspend
  split <;> rename_i hx <;> simp [hx, ChannelState.isBreak]

theorem suspend_allowsLink {ch : Channel} {l : LeaseState} (h : ch.state.allowsLink l = true) :
    ch.suspend.allowsLink l.suspend = true := by
  unfold Channel.suspend
  cases hx : ch.state <;> rw [hx] at h <;> cases l <;> first | rfl | cases h

/-- A channel of a HELD lease is REARM after assertion (R107). -/
theorem suspend_of_held {ch : Channel} {v : SlotNo} (hl : ch.state.link = some v)
    (ha : ch.state.allowsLink .held = true) : ch.suspend = .rearm v := by
  unfold Channel.suspend
  cases hx : ch.state <;> rw [hx] at hl ha <;> cases hl <;> first | rfl | cases ha

theorem lawful_assertInhibit {s : State} (h : s.lawful) : s.assertInhibit.lawful := by
  refine lawful_notifyAll ?_ _
  have ha := tableLaw_iff.1 h.table
  have hch : ∀ c, ((((s.qualify true).mapChannels fun _ ch => { ch with state := ch.suspend }).mapLeaseStates
      LeaseState.suspend).channel c).state = (s.channel c).suspend := fun c => by
    rw [mapLeaseStates_channel, mapChannels_channel, qualify_channel]
  have hle : ∀ v, (((s.qualify true).mapChannels fun _ ch => { ch with state := ch.suspend }).mapLeaseStates
      LeaseState.suspend).lease? v = (s.lease? v).map fun l => { l with state := l.state.suspend } :=
    fun v => mapLeaseStates_lease _ _ v
  refine ⟨⟨mapLeaseStates_queueLaw (s := (s.qualify true).mapChannels fun _ ch => { ch with state := ch.suspend }) h.table.1
    fun x => by cases x <;> simp [LeaseState.suspend], fun c v hc => ?_, fun v l hl => ?_⟩, fun v l hl => ?_⟩
  · rw [hch, suspend_link] at hc
    obtain ⟨l, hl, hcs, hal⟩ := h.table.2.1 c v hc
    refine ⟨{ l with state := l.state.suspend }, by simp [hle, show s.lease? v = some l from hl], hcs, ?_⟩
    rw [hch]
    exact suspend_allowsLink hal
  · rw [hle] at hl
    obtain ⟨m, hm, rfl⟩ := Option.map_eq_some_iff.1 hl
    obtain ⟨hwait, hgrant, hheld, hsusp⟩ := ha.set hm (Set.notMem_empty v)
    refine ⟨fun hx c => ?_, fun hx => ?_, fun hx => ?_, fun hx => ⟨rfl, fun c hc => ?_⟩⟩
    · have hw : m.state = .waiting := by cases hy : m.state <;> simp [hy, LeaseState.suspend] at hx ⊢
      rw [hch, suspend_link]
      exact hwait hw c
    · have hg : m.state = .granting := by cases hy : m.state <;> simp [hy, LeaseState.suspend] at hx ⊢
      obtain ⟨hall, c, hc, hb⟩ := hgrant hg
      exact ⟨fun d hd => by rw [hch, suspend_link]; exact hall d hd, c, hc, by rw [hch, suspend_isBreak]; exact hb⟩
    · cases hy : m.state <;> simp [hy, LeaseState.suspend] at hx
    · rw [hch]
      cases hy : m.state with
      | waiting => simp [hy, LeaseState.suspend] at hx
      | granting => simp [hy, LeaseState.suspend] at hx
      | held =>
        have hlink := hheld hy c hc
        obtain ⟨m', hm', -, hal⟩ := h.table.2.1 c v hlink
        obtain rfl : m = m' := Option.some_inj.1 (hm.symm.trans hm')
        exact suspend_of_held hlink (hy ▸ hal)
      | suspended => rw [Channel.suspend, (hsusp hy).2 c hc]
  · rw [hle] at hl
    obtain ⟨m, hm, rfl⟩ := Option.map_eq_some_iff.1 hl
    have hr := h.record v m hm
    cases hy : m.state <;> simpa [Lease.recordLaw, hy, LeaseState.suspend] using hr

theorem lawful_liftInhibit {s : State} (h : s.lawful) : s.liftInhibit.lawful := by
  refine lawful_notifyAll ?_ _
  have hle : ∀ v, ((s.qualify false).mapLeaseStates LeaseState.resume).lease? v =
      (s.lease? v).map fun l => { l with state := l.state.resume } := fun v => mapLeaseStates_lease _ _ v
  have hal : ∀ {x : ChannelState} {l : LeaseState}, x.allowsLink l = true → x.allowsLink l.resume = true := by
    intro x l hx
    cases x <;> cases l <;> first | rfl | cases hx
  refine ⟨⟨mapLeaseStates_queueLaw (s := s.qualify false) h.table.1 fun x => by cases x <;> simp [LeaseState.resume],
    fun c v hc => ?_, fun v l hl => ?_⟩, fun v l hl => ?_⟩
  · obtain ⟨l, hl, hcs, ha⟩ := h.table.2.1 c v hc
    exact ⟨{ l with state := l.state.resume }, by simp [hle, show s.lease? v = some l from hl], hcs, hal ha⟩
  · rw [hle] at hl
    obtain ⟨m, hm, rfl⟩ := Option.map_eq_some_iff.1 hl
    have hset := h.table.2.2 v m hm
    obtain ⟨hwait, hgrant, hheld, hsusp⟩ := hset
    cases hy : m.state with
    | waiting => simpa [State.setLaw, hy, LeaseState.resume] using hwait hy
    | granting => simpa [State.setLaw, hy, LeaseState.resume] using hgrant hy
    | held => simpa [State.setLaw, hy, LeaseState.resume] using hheld hy
    | suspended =>
      have hlink : ∀ c, inSet m.set c = true → (s.channel c).state.link = some v := fun c hc => by
        rw [(hsusp hy).2 c hc]; rfl
      simpa [State.setLaw, hy, LeaseState.resume] using hlink
  · rw [hle] at hl
    obtain ⟨m, hm, rfl⟩ := Option.map_eq_some_iff.1 hl
    have hr := h.record v m hm
    cases hy : m.state <;> simpa [Lease.recordLaw, hy, LeaseState.resume] using hr

/-! ### Every row and every step -/

theorem lawful_perform {s : State} (h : s.lawful) (i : Instr) : (s.perform i).lawful := by
  cases i with
  | noop => exact h
  | request p _ seq set levels comp term maxWait tag => exact lawful_request h p seq set levels comp term maxWait tag
  | renew p _ seq slot gen newTerm =>
    exact onOwnLease_keeps (lawful_refuse h p seq) fun _ _ hl => lawful_renew h p seq newTerm hl
  | drive p _ seq slot gen mask levels =>
    exact onOwnLease_keeps (lawful_refuse h p seq) fun _ _ hl => lawful_drive h p seq mask levels hl
  | shed p _ seq slot gen set =>
    exact onOwnLease_keeps (lawful_refuse h p seq) fun _ _ hl => lawful_shed h p seq set hl
  | alter p _ seq slot gen comp =>
    exact onOwnLease_keeps (lawful_refuse h p seq) fun _ _ hl => lawful_alter h p seq comp hl
  | release p _ seq slot gen =>
    exact onOwnLease_keeps (lawful_refuse h p seq) fun v _ _ =>
      lawful_answer (lawful_pass (lawful_endQuietly h v) _) _ _ _ _
  | releaseAll p _ seq => exact lawful_releaseAll h p seq
  | queryLease p _ seq slot gen => exact lawful_queryLease h p seq slot gen
  | listLeases p _ seq start => exact lawful_listLeases h p seq start
  | queryChannel p _ seq channel _ => exact lawful_queryChannel h p seq channel
  | queryStatus p _ seq => exact lawful_answer h p seq .ok _
  | readNotice p _ seq => exact lawful_readNotice h p seq
  | clearFault p _ seq channel => exact lawful_clearFault h p seq channel
  | setNotices p _ seq mask lead => exact lawful_setNotices h p seq mask lead
  | setChannel p _ seq channel flags breakTime settleTime threshold =>
    exact lawful_setChannel h p seq channel flags breakTime settleTime threshold
  | setHost p _ seq host quota ceiling rights => exact lawful_setHost h p seq host quota ceiling rights
  | readHost p _ seq host => exact lawful_readHost h p seq host
  | revoke p _ seq slot gen => exact lawful_revoke h p seq slot gen
  | tableReset p _ seq => exact lawful_tableReset h p seq
  | frameStart | frameError | deviceReset | resetComplete | inhibitLineChange => exact h
  | termStep v => exact lawful_termStep h v
  | expiry v => exact lawful_expiryEvent h v
  | waitStep v => exact lawful_waitStep h v
  | waitTimeout v => exact lawful_timeoutEvent h v
  | breakEndReserved c => exact lawful_breakEndReserved h c
  | breakEndUnreserved c => exact lawful_breakEndUnreserved h c
  | sweepVisit => exact lawful_sweepVisit h
  | assertion =>
    unfold State.perform
    dsimp only
    split
    · exact lawful_assertInhibit h
    · exact h
  | releaseOfInhibit =>
    unfold State.perform
    dsimp only
    split
    · exact lawful_liftInhibit h
    · exact h
  | breakCountdown c => exact lawful_breakCountdown h c
  | settleTimerTick => exact lawful_settleTick h

theorem advance_channel (s : State) (c : ChannelNo) :
    s.advance.channel c = { s.channel c with state := (s.channel c).state.tick } := bank_get _ c

theorem advance_slot (s : State) (v : SlotNo) :
    s.advance.slot v = { s.slot v with lease := (s.lease? v).map Lease.tick } := bank_get _ v

theorem advance_lease (s : State) (v : SlotNo) : s.advance.lease? v = (s.lease? v).map Lease.tick :=
  congrArg Slot.lease (advance_slot s v)

theorem tick_core (l : Lease) : l.tick.core = l.core := by
  unfold Lease.tick
  split <;> rfl

theorem tick_recordLaw {l : Lease} (h : l.recordLaw) : l.tick.recordLaw := by
  unfold Lease.tick
  split <;> exact h

theorem tick_bare (x : ChannelState) : x.tick.bare = x.bare := by cases x <;> rfl

theorem lawful_advance {s : State} (h : s.lawful) : s.advance.lawful := by
  refine ⟨tableLaw_of_sameTable (s := s) ⟨rfl, fun v => ?_, fun c => ?_, id⟩ h.table, fun v l hl => ?_⟩
  · rw [advance_lease, Option.map_map]
    exact congrArg (Option.map · _) (funext tick_core)
  · rw [advance_channel, tick_bare]
  · rw [advance_lease] at hl
    obtain ⟨m, hm, rfl⟩ := Option.map_eq_some_iff.1 hl
    exact tick_recordLaw (h.record v m hm)

/-- Settles O56: the law of the table and of the lease records is kept by the work of every row, with the law of some leases
left out while an operation is at work on them. -/
theorem tableLawKept : Obligations.TableLawKept := by
  intro s t htable hrecord h
  have key : t.lawful := step_keeps (P := State.lawful) (Q := fun _ t => t.lawful) lawful_of_sameParts
    (fun {s} _ => lawful_completeReset s) lawful_advance (fun i {_} hs => lawful_perform hs i) lawful_syncOutputs
    ⟨htable, hrecord⟩ h
  exact ⟨key.table, key.record⟩

end Sys2Proof.Machine
end

section
/-! PROOFS. What each command and event can do to one channel, said once for every property of a channel that the requests of the
channel stage keep; and from it the law of the channels and their fault records (R1, R7, R116, R120, R123, R125). -/

namespace Sys2Proof.Machine

/-! ### Properties of a channel that the channel stage keeps -/

/-- The property `R` of a channel is kept by every request of the channel stage (R9 to R16), by the settle timer (R5), and by
the commands that write a configuration or clear a fault (R8, R129, R130). A channel is reserved or handed over only when no
fault bars it (R48). -/
structure Channel.KeptByStage (R : Channel → Prop) : Prop where
  reserve : ∀ {ch} (w : SlotNo), ch.available = true → R ch → R { ch with state := ch.reserve w }
  handOver : ∀ {ch} (w : SlotNo), ch.available = true → R ch → R { ch with state := ch.handOver w }
  leave : ∀ {ch}, R ch → R { ch with state := ch.leave }
  hold : ∀ {ch} (w : SlotNo) (inhibit : Bool) (level : Level), R ch → R { ch with state := ch.hold w inhibit level }
  redrive : ∀ {ch} (level : Level), R ch → R { ch with state := ch.redrive level }
  endBreak : ∀ {ch}, R ch → R { ch with state := ch.endBreak }
  count : ∀ {ch link remaining ms}, ch.state = .brk link remaining ms → R ch →
    R { ch with state := .brk link (remaining - 1) 0 }
  suspend : ∀ {ch}, R ch → R { ch with state := ch.suspend }
  settle : ∀ {ch}, R ch → R { ch with settle := min (ch.settle + 1) Config.settleStop }
  clearFault : ∀ {ch}, R ch → R ch.clearFault
  configure : ∀ {ch} {k : ChannelConfig}, k.inRange → ch.state = .free ∨ ch.state = .lockedOut → R ch → R (ch.configure k)

theorem handOver_eq_lockedOut (ch : Channel) (w : SlotNo) : ch.handOver w = .lockedOut ↔ ch.state = .lockedOut := by
  unfold Channel.handOver
  split <;> simp_all
  split <;> simp

theorem leave_eq_lockedOut (ch : Channel) : ch.leave = .lockedOut ↔ ch.state = .lockedOut := by
  unfold Channel.leave
  split <;> simp_all
  split <;> simp

theorem reserve_eq_lockedOut (ch : Channel) (w : SlotNo) : ch.reserve w = .lockedOut ↔ ch.state = .lockedOut := by
  unfold Channel.reserve
  split <;> simp_all

theorem hold_eq_lockedOut (ch : Channel) (w : SlotNo) (inhibit : Bool) (level : Level) :
    ch.hold w inhibit level = .lockedOut ↔ ch.state = .lockedOut := by
  unfold Channel.hold
  split <;> simp_all
  split <;> simp

theorem redrive_eq_lockedOut (ch : Channel) (level : Level) : ch.redrive level = .lockedOut ↔ ch.state = .lockedOut := by
  unfold Channel.redrive
  split <;> simp_all

theorem endBreak_eq_lockedOut (ch : Channel) : ch.endBreak = .lockedOut ↔ ch.state = .lockedOut := by
  unfold Channel.endBreak
  split <;> simp_all

theorem suspend_eq_lockedOut (ch : Channel) : ch.suspend = .lockedOut ↔ ch.state = .lockedOut := by
  unfold Channel.suspend
  split <;> simp_all

theorem handOver_breakRemaining (ch : Channel) (w : SlotNo) :
    (ch.handOver w).breakRemaining ≤ max ch.state.breakRemaining ch.config.breakTime := by
  unfold Channel.handOver
  split
  · split
    · exact Nat.zero_le _
    · exact le_max_right _ _
  · exact Nat.zero_le _
  · exact Nat.zero_le _
  · rename_i hx
    exact le_max_of_le_left (by rw [hx]; exact le_rfl)
  · exact Nat.zero_le _
  · exact Nat.zero_le _

theorem leave_breakRemaining (ch : Channel) :
    ch.leave.breakRemaining ≤ max ch.state.breakRemaining ch.config.breakTime := by
  unfold Channel.leave
  split
  · split
    · exact Nat.zero_le _
    · exact le_max_right _ _
  · exact Nat.zero_le _
  · exact Nat.zero_le _
  · rename_i hx
    exact le_max_of_le_left (by rw [hx]; exact le_rfl)
  · exact Nat.zero_le _
  · exact Nat.zero_le _

theorem available_of_state {ch : Channel} {x : ChannelState} (h : ch.available = true) (hx : x ≠ .lockedOut) :
    ({ ch with state := x } : Channel).available = true := by
  simp only [Channel.available, Bool.and_eq_true, bne_iff_ne] at h ⊢
  exact ⟨⟨h.1.1, hx⟩, h.2⟩

@[simp] theorem warningCheck_channel (s : State) (v : SlotNo) (c : ChannelNo) :
    (s.warningCheck v).channel c = s.channel c := by
  unfold State.warningCheck
  split
  · rfl
  · split <;> rfl

theorem renew_channel (s : State) (p : HostNo) (seq : Byte) (newTerm : Word) (v : SlotNo) (l : Lease) (c : ChannelNo) :
    (s.renew p seq newTerm v l).channel c = s.channel c := by
  unfold State.renew
  split
  · rfl
  · dsimp only
    split <;> simp [State.answerRenew]

theorem modifyChannel_keeps {R : Channel → Prop} {s : State} {c d : ChannelNo} {f : Channel → Channel} (h : R (s.channel c))
    (hf : R (s.channel d) → R (f (s.channel d))) : R ((s.modifyChannel d f).channel c) := by
  rw [modifyChannel_channel]
  split
  · rename_i hd
    subst hd
    exact hf h
  · exact h

theorem configField_inRange {flags breakTime settleTime threshold : Byte} {k : ChannelConfig}
    (h : configField flags breakTime settleTime threshold = some k) : k.inRange := by
  unfold configField at h
  split at h
  · rename_i hr
    obtain ⟨-, hb, hs, ht, ht'⟩ := hr
    obtain ⟨pol, -, rfl⟩ := Option.map_eq_some_iff.1 h
    exact ⟨hb, hs, Nat.le_of_lt_succ settleTime.isLt, ht, ht'⟩
  · cases h

section stage
variable {R : Channel → Prop} (hR : Channel.KeptByStage R) {s : State} {c : ChannelNo}
include hR

theorem takeOut_channel (v : SlotNo) (h : R (s.channel c)) : R ((s.takeOut v).channel c) := by
  unfold State.takeOut
  split
  · exact h
  · split
    · exact h
    · rw [mapSet_channel]
      split
      · exact hR.leave h
      · exact h

theorem endQuietly_channel (v : SlotNo) (h : R (s.channel c)) : R ((s.endQuietly v).channel c) :=
  takeOut_channel hR v h

theorem endLease_channel (v : SlotNo) (n : Notice) (h : R (s.channel c)) : R ((s.endLease v n).channel c) := by
  unfold State.endLease
  split
  · exact h
  · exact takeOut_channel hR v h

theorem holdLease_channel (own : Option SlotNo) (v : SlotNo) (h : R (s.channel c)) :
    R ((s.holdLease own v).channel c) := by
  unfold State.holdLease
  split
  · exact h
  · rename_i l _
    dsimp only
    rw [warningCheck_channel]
    have key : ∀ t : State, t.channel c = s.channel c → R ((t.mapChannels fun d ch => if inSet l.set d then
        { ch with state := ch.hold v s.inhibit.inEffect (levelOf l.initial d) } else ch).channel c) := fun t ht => by
      rw [mapChannels_channel, ht]
      split
      · exact hR.hold v _ _ h
      · exact h
    split
    · exact key _ rfl
    · exact key _ rfl

theorem holdUnlessBreak_channel (own : Option SlotNo) (v : SlotNo) (set : Word) (h : R (s.channel c)) :
    R ((s.holdUnlessBreak own v set).channel c) := by
  unfold State.holdUnlessBreak
  split
  · exact h
  · exact holdLease_channel hR own v h

/-- A pre-emption keeps `R` on a channel that the winner may take, and leaves it one that it may take (R55). -/
theorem preempt_keeps (w : SlotNo) (wset : Word) (v : SlotNo) (h : R (s.channel c))
    (ha : inSet wset c = true → (s.channel c).available = true) : R ((State.preempt w wset s v).channel c) ∧
      (inSet wset c = true → ((State.preempt w wset s v).channel c).available = true) := by
  cases hl : s.lease? v with
  | none => simpa only [State.preempt, hl] using ⟨h, ha⟩
  | some m =>
    rw [preempt_channel hl]
    by_cases hm : inSet m.set c = true
    · rw [if_pos hm]
      by_cases hc : inSet wset c = true
      · have hav := ha hc
        rw [if_pos hc]
        refine ⟨hR.handOver w hav h, fun _ => available_of_state hav ?_⟩
        rw [Ne, handOver_eq_lockedOut]
        exact not_lockedOut_of_available hav
      · rw [if_neg hc]
        exact ⟨hR.leave h, fun hc' => absurd hc' hc⟩
    · rw [if_neg hm]
      exact ⟨h, ha⟩

theorem preempts_keep (w : SlotNo) (wset : Word) (vs : List SlotNo) (h : R (s.channel c))
    (ha : inSet wset c = true → (s.channel c).available = true) :
    R ((vs.foldl (State.preempt w wset) s).channel c) ∧
      (inSet wset c = true → ((vs.foldl (State.preempt w wset) s).channel c).available = true) := by
  induction vs generalizing s with
  | nil => exact ⟨h, ha⟩
  | cons v vs ih =>
    obtain ⟨h, ha⟩ := preempt_keeps hR w wset v h ha
    exact ih h ha

theorem grant_channel {ahead : List SlotNo} {w : SlotNo} (own : Option SlotNo) (hg : s.grantable ahead w = true)
    (h : R (s.channel c)) : R ((s.grant own w).channel c) := by
  unfold State.grant
  split
  · exact h
  · rename_i l hl
    obtain ⟨h1, ha⟩ := preempts_keep hR w l.set (s.victims l.set) h fun hc => available_of_grantable hl hg hc
    refine holdUnlessBreak_channel hR own w l.set ?_
    rw [reserveSet_channel]
    split
    · rename_i hc
      exact hR.reserve w (ha hc) h1
    · exact h1

/-- What every request of the channel stage keeps of a channel, a pass keeps (R50). -/
theorem pass_channel (own : Option SlotNo) (h : R (s.channel c)) : R ((s.pass own).channel c) :=
  pass_induct (P := fun t => R (t.channel c)) own (fun _ _ _ ht _ hg => grant_channel hR own hg ht) h

/-! ### One channel through each row -/

theorem request_channel (p : HostNo) (seq : Byte) (set levels : Word) (comp : Byte) (term maxWait tag : Word)
    (h : R (s.channel c)) : R ((s.request p seq set levels comp term maxWait tag).channel c) := by
  have hout : ∀ (t : State) (v : SlotNo) (hd : Handle), R (t.channel c) →
      R ((t.requestOutcome p seq v hd).channel c) := fun t v hd ht => by
    unfold State.requestOutcome
    repeat' split
    all_goals exact ht
  unfold State.request
  split
  · repeat' split
    all_goals first | exact h | exact hout _ _ _ (pass_channel hR _ h)
  · exact h

theorem drive_channel (p : HostNo) (seq : Byte) (mask levels : Word) (v : SlotNo) (l : Lease) (h : R (s.channel c)) :
    R ((s.drive p seq mask levels v l).channel c) := by
  unfold State.drive
  split
  · exact h
  · split
    · exact h
    · rw [State.answerDrive, answer_channel, modifyLease_channel, mapChannels_channel]
      split
      · exact hR.redrive _ h
      · exact h
    · exact h
    · exact h

theorem shed_channel (p : HostNo) (seq : Byte) (set : Word) (v : SlotNo) (l : Lease) (h : R (s.channel c)) :
    R ((s.shed p seq set v l).channel c) := by
  have hleft : R ((s.shedFrom v set).channel c) := by
    rw [shedFrom_channel]
    split
    · exact hR.leave h
    · exact h
  have hshed : R ((s.shedChannels set v l).channel c) := by
    unfold State.shedChannels
    split
    · exact h
    · exact hleft
    · exact hleft
    · exact holdUnlessBreak_channel hR _ _ _ hleft
  unfold State.shed
  split
  · exact h
  · split
    · exact h
    · exact pass_channel hR _ hshed

theorem alter_channel (p : HostNo) (seq comp : Byte) (v : SlotNo) (l : Lease) (h : R (s.channel c)) :
    R ((s.alter p seq comp v l).channel c) := by
  unfold State.alter
  split
  · exact h
  · split
    · exact h
    · refine pass_channel hR (s := s.writeCompetition v l _ _ _) none ?_
      rw [writeCompetition_eq]
      split <;> exact h

theorem releaseAll_channel (p : HostNo) (seq : Byte) (h : R (s.channel c)) : R ((s.releaseAll p seq).channel c) := by
  have key : ∀ (vs : List SlotNo) {u : State}, R (u.channel c) → R ((vs.foldl State.endQuietly u).channel c) := by
    intro vs
    induction vs with
    | nil => exact fun hu => hu
    | cons v vs ih => exact fun hu => ih (endQuietly_channel hR v hu)
  exact pass_channel hR _ (key _ h)

theorem revoke_channel (p : HostNo) (seq slot gen : Byte) (h : R (s.channel c)) :
    R ((s.revoke p seq slot gen).channel c) := by
  unfold State.revoke
  split
  · exact h
  · split
    · exact h
    · exact pass_channel hR _ (endLease_channel hR _ _ h)

theorem clearFault_channel (p : HostNo) (seq channel : Byte) (h : R (s.channel c)) :
    R ((s.clearFault p seq channel).channel c) := by
  unfold State.clearFault
  split
  · exact h
  · repeat' split
    all_goals first | exact h | exact pass_channel hR _ (modifyChannel_keeps h hR.clearFault)

theorem setChannel_channel (p : HostNo) (seq channel flags breakTime settleTime threshold : Byte) (h : R (s.channel c)) :
    R ((s.setChannel p seq channel flags breakTime settleTime threshold).channel c) := by
  unfold State.setChannel
  split
  · exact h
  split
  · rename_i d k _ hk
    split
    · exact h
    rename_i hx
    split
    · exact h
    have hd : R ((s.modifyChannel d (Channel.configure k)).channel c) :=
      modifyChannel_keeps h (hR.configure (configField_inRange hk) (free_or_lockedOut hx))
    dsimp only
    split
    · exact pass_channel hR _ hd
    · exact hd
  · exact h

theorem tableReset_channel (p : HostNo) (seq : Byte) (h : R (s.channel c)) : R ((s.tableReset p seq).channel c) := by
  unfold State.tableReset
  split
  · exact h
  · rw [answer_channel, clearTable_channel]
    exact hR.leave h

theorem termStep_channel (v : SlotNo) (h : R (s.channel c)) : R ((s.termStep v).channel c) := by
  unfold State.termStep
  split
  · exact h
  · split
    · split
      · exact pass_channel hR _ (endLease_channel hR _ _ h)
      · rw [warningCheck_channel]
        exact h
    · exact h

theorem waitStep_channel (v : SlotNo) (h : R (s.channel c)) : R ((s.waitStep v).channel c) := by
  unfold State.waitStep
  split
  · exact h
  · split
    · split
      · exact pass_channel hR _ (endLease_channel hR _ _ h)
      · exact h
    · exact h

theorem expiryEvent_channel (v : SlotNo) (h : R (s.channel c)) : R ((s.expiryEvent v).channel c) := by
  unfold State.expiryEvent
  split
  · exact h
  · split
    · exact pass_channel hR _ (endLease_channel hR _ _ h)
    · exact h

theorem timeoutEvent_channel (v : SlotNo) (h : R (s.channel c)) : R ((s.timeoutEvent v).channel c) := by
  unfold State.timeoutEvent
  split
  · exact h
  · split
    · exact pass_channel hR _ (endLease_channel hR _ _ h)
    · exact h

theorem endBreak_channel (d : ChannelNo) (link : Option SlotNo) (h : R (s.channel c)) :
    R ((s.endBreak d link).channel c) := by
  have hd : R ((s.modifyChannel d fun ch => { ch with state := ch.endBreak }).channel c) :=
    modifyChannel_keeps h hR.endBreak
  unfold State.endBreak State.breakEnded
  split
  · exact pass_channel hR _ hd
  · split
    · exact hd
    · exact holdUnlessBreak_channel hR _ _ _ hd

theorem breakCountdown_channel (d : ChannelNo) (h : R (s.channel c)) : R ((s.breakCountdown d).channel c) := by
  unfold State.breakCountdown
  split
  case h_1 link remaining ms hd =>
    split
    · split
      · exact endBreak_channel hR d link h
      · exact modifyChannel_keeps h (hR.count hd)
    · exact h
  all_goals exact h

theorem breakEndReserved_channel (d : ChannelNo) (h : R (s.channel c)) : R ((s.breakEndReserved d).channel c) := by
  unfold State.breakEndReserved
  split
  case h_1 =>
    split
    · exact endBreak_channel hR d _ h
    · exact h
  all_goals exact h

theorem breakEndUnreserved_channel (d : ChannelNo) (h : R (s.channel c)) : R ((s.breakEndUnreserved d).channel c) := by
  unfold State.breakEndUnreserved
  split
  case h_1 =>
    split
    · exact endBreak_channel hR d _ h
    · exact h
  all_goals exact h

theorem assertInhibit_channel (h : R (s.channel c)) : R (s.assertInhibit.channel c) := by
  unfold State.assertInhibit
  rw [notifyAll_channel, mapLeaseStates_channel, mapChannels_channel, qualify_channel]
  exact hR.suspend h

/-- Every row but a visit of the sweep keeps what the channel stage keeps of a channel. -/
theorem perform_channel (i : Instr) (hi : ∀ fb, i ≠ .sweepVisit fb) (h : R (s.channel c)) :
    R ((s.perform i).channel c) := by
  have own {p : HostNo} {seq slot gen : Byte} {body : SlotNo → Lease → State}
      (hb : ∀ v l, s.lease? v = some l → R ((body v l).channel c)) :
      R ((s.onOwnLease p seq slot gen body).channel c) :=
    onOwnLease_keeps (P := fun t => R (t.channel c)) (fun _ => h) hb
  cases i with
  | request p _ seq set levels comp term maxWait tag => exact request_channel hR p seq set levels comp term maxWait tag h
  | renew p _ seq slot gen newTerm => exact own fun v l _ => by rw [renew_channel]; exact h
  | drive p _ seq slot gen mask levels => exact own fun v l _ => drive_channel hR p seq mask levels v l h
  | shed p _ seq slot gen set => exact own fun v l _ => shed_channel hR p seq set v l h
  | alter p _ seq slot gen comp => exact own fun v l _ => alter_channel hR p seq comp v l h
  | release p _ seq slot gen => exact own fun v _ _ => pass_channel hR _ (endQuietly_channel hR v h)
  | releaseAll p _ seq => exact releaseAll_channel hR p seq h
  | clearFault p _ seq channel => exact clearFault_channel hR p seq channel h
  | setChannel p _ seq channel flags breakTime settleTime threshold =>
    exact setChannel_channel hR p seq channel flags breakTime settleTime threshold h
  | revoke p _ seq slot gen => exact revoke_channel hR p seq slot gen h
  | tableReset p _ seq => exact tableReset_channel hR p seq h
  | termStep v => exact termStep_channel hR v h
  | expiry v => exact expiryEvent_channel hR v h
  | waitStep v => exact waitStep_channel hR v h
  | waitTimeout v => exact timeoutEvent_channel hR v h
  | breakEndReserved d => exact breakEndReserved_channel hR d h
  | breakEndUnreserved d => exact breakEndUnreserved_channel hR d h
  | breakCountdown d => exact breakCountdown_channel hR d h
  | sweepVisit fb => exact absurd rfl (hi fb)
  | assertion =>
    unfold State.perform
    dsimp only
    split
    · exact assertInhibit_channel hR h
    · exact h
  | releaseOfInhibit =>
    unfold State.perform
    dsimp only
    split <;> exact h
  | settleTimerTick =>
    rw [State.perform, State.settleTick, mapChannels_channel]
    exact hR.settle h
  | queryLease p _ seq slot gen =>
    unfold State.perform State.queryLease
    dsimp only
    split <;> exact h
  | listLeases p _ seq start =>
    unfold State.perform State.listLeases
    dsimp only
    split <;> exact h
  | queryChannel p _ seq channel fb =>
    unfold State.perform State.queryChannel
    dsimp only
    split <;> exact h
  | readNotice p _ seq =>
    unfold State.perform State.readNotice
    dsimp only
    split <;> exact h
  | setNotices p _ seq mask lead =>
    unfold State.perform State.setNotices
    dsimp only
    split <;> exact h
  | setHost p _ seq host quota ceiling rights =>
    unfold State.perform State.setHost
    dsimp only
    repeat' split
    all_goals exact h
  | readHost p _ seq host =>
    unfold State.perform State.readHost
    dsimp only
    split <;> exact h
  | noop | queryStatus | frameStart | frameError | deviceReset | resetComplete | inhibitLineChange => exact h

end stage

/-! ### The law of a channel while an event is under way -/

/-- The law of a channel whose output level was `o` when the event began: a SUSPECT record speaks of that level until the end
of the event, where a channel that has left it becomes HEALTHY (R119, R120). -/
structure Channel.lawAt (o : Level) (ch : Channel) : Prop where
  settle : ch.settle ≤ 255
  brk : ch.state.breakRemaining ≤ 250
  config : ch.config.inRange
  healthy : ch.fault.state = .healthy → ch.fault.count = 0 ∧ ch.fault.kind = .none ∧ ch.fault.present = false
  suspect : ch.fault.state = .suspect → 1 ≤ ch.fault.count ∧ ch.fault.count < ch.config.threshold ∧
    ch.fault.kind = (if o then .stuckOff else .stuckOn) ∧ ch.fault.present = false
  faulted : ch.fault.state = .faulted → 1 ≤ ch.fault.count ∧ ch.fault.count ≤ 15 ∧ ch.fault.kind ≠ .none
  lockedOut : ch.state = .lockedOut → ch.fault.state = .faulted
  latchOff : ch.fault.state = .faulted → ch.config.policy = .latchOff → ch.state = .lockedOut

theorem law_iff_lawAt {ch : Channel} : ch.law ↔ ch.lawAt ch.output :=
  ⟨fun ⟨h1, h2, h3, h4, h5, h6, h7, h8⟩ => ⟨h1, h2, h3, h4, h5, h6, h7, h8⟩,
    fun ⟨h1, h2, h3, h4, h5, h6, h7, h8⟩ => ⟨h1, h2, h3, h4, h5, h6, h7, h8⟩⟩

/-- A change of a channel's state that neither locks it out nor frees it from lockout. -/
theorem lawAt_state {o : Level} {ch : Channel} {x : ChannelState} (h : ch.lawAt o)
    (hl : x = .lockedOut ↔ ch.state = .lockedOut)
    (hb : x.breakRemaining ≤ max ch.state.breakRemaining ch.config.breakTime) :
    ({ ch with state := x } : Channel).lawAt o :=
  ⟨h.settle, hb.trans (max_le h.brk h.config.1), h.config, h.healthy, h.suspect, h.faulted,
    fun hx => h.lockedOut (hl.1 hx), fun hf hp => hl.2 (h.latchOff hf hp)⟩

/-- A fault record of a HEALTHY channel says nothing (R116). -/
theorem lawAt_healthy {o : Level} {ch : Channel} (hs : ch.settle ≤ 255) (hb : ch.state.breakRemaining ≤ 250)
    (hc : ch.config.inRange) (hf : ch.fault = FaultRecord.healthy) (hl : ch.state ≠ .lockedOut) : ch.lawAt o := by
  refine ⟨hs, hb, hc, ?_, ?_, ?_, fun hx => absurd hx hl, ?_⟩ <;> simp [hf, FaultRecord.healthy]

theorem unlock_ne (x : ChannelState) : (if x = .lockedOut then ChannelState.free else x) ≠ .lockedOut := by
  split <;> simp_all

theorem unlock_breakRemaining (x : ChannelState) :
    (if x = .lockedOut then ChannelState.free else x).breakRemaining = x.breakRemaining := by
  split
  · rename_i hx; rw [hx]; rfl
  · rfl

theorem lawAt_configure {o : Level} {ch : Channel} {k : ChannelConfig} (hk : k.inRange)
    (h : ch.lawAt o) : (ch.configure k).lawAt o := by
  unfold Channel.configure
  split
  · exact lawAt_healthy h.settle (by rw [unlock_breakRemaining]; exact h.brk) hk rfl (unlock_ne _)
  · split
    · rename_i hf
      exact lawAt_healthy h.settle h.brk hk rfl fun hl => by simp [h.lockedOut hl] at hf
    · rename_i hf
      refine ⟨h.settle, h.brk, hk, h.healthy, ?_, h.faulted, h.lockedOut, ?_⟩ <;> simp [hf]
    · rename_i hf
      have hbr : ∀ p : Prop, [Decidable p] → (if p then ChannelState.lockedOut else ch.state).breakRemaining ≤ 250 := by
        intro p _
        split
        · exact Nat.zero_le _
        · exact h.brk
      refine ⟨h.settle, hbr _, hk, h.healthy, ?_, h.faulted, fun _ => hf, fun _ hp => if_pos hp⟩
      simp [hf]

theorem lawAt_keptByStage (o : Level) : Channel.KeptByStage (Channel.lawAt o) where
  reserve {ch} w _ h := lawAt_state h (reserve_eq_lockedOut ch w) (by
    unfold Channel.reserve; split <;> simp_all [ChannelState.breakRemaining])
  handOver {ch} w _ h := lawAt_state h (handOver_eq_lockedOut ch w) (handOver_breakRemaining ch w)
  leave {ch} h := lawAt_state h (leave_eq_lockedOut ch) (leave_breakRemaining ch)
  hold {ch} w inhibit level h := lawAt_state h (hold_eq_lockedOut ch w inhibit level) (by
    unfold Channel.hold; cases inhibit <;> split <;> simp_all [ChannelState.breakRemaining])
  redrive {ch} level h := lawAt_state h (redrive_eq_lockedOut ch level) (by
    unfold Channel.redrive; split <;> simp_all [ChannelState.breakRemaining])
  endBreak {ch} h := lawAt_state h (endBreak_eq_lockedOut ch) (by
    unfold Channel.endBreak; split <;> simp_all [ChannelState.breakRemaining])
  count hx h := lawAt_state h (by simp [hx]) (by
    rw [hx]; exact le_max_of_le_left (Nat.sub_le _ _))
  suspend {ch} h := lawAt_state h (suspend_eq_lockedOut ch) (by
    unfold Channel.suspend; split <;> simp_all [ChannelState.breakRemaining])
  settle h := ⟨min_le_right _ _, h.brk, h.config, h.healthy, h.suspect, h.faulted, h.lockedOut, h.latchOff⟩
  clearFault h := lawAt_healthy h.settle (by rw [Channel.clearFault, unlock_breakRemaining]; exact h.brk) h.config rfl
    (unlock_ne _)
  configure hk _ h := lawAt_configure hk h

/-! ### The law through a visit -/

/-- The disagreement that confirms a fault (R119, R121): the record is FAULTED, under every policy but LATCH_OFF. -/
theorem lawAt_faulted {o : Level} {ch : Channel} {n : Nat} {kind : FaultKind} (h : ch.lawAt o) (hn : 1 ≤ n) (hn' : n ≤ 15)
    (hk : kind ≠ .none) (hp : ch.config.policy ≠ .latchOff) :
    ({ ch with fault := { state := .faulted, count := n, kind := kind, present := true } } : Channel).lawAt o := by
  refine ⟨h.settle, h.brk, h.config, ?_, ?_, fun _ => ⟨hn, hn', hk⟩, fun _ => rfl, fun _ hx => absurd hx hp⟩ <;> simp

theorem lawAt_lockedOut {o : Level} {ch : Channel} {n : Nat} {kind : FaultKind} (h : ch.lawAt o) (hn : 1 ≤ n) (hn' : n ≤ 15)
    (hk : kind ≠ .none) : ({ ch with state := .lockedOut
                                     fault := { state := .faulted, count := n, kind := kind, present := true } } :
      Channel).lawAt o := by
  refine ⟨h.settle, Nat.zero_le _, h.config, ?_, ?_, fun _ => ⟨hn, hn', hk⟩, fun _ => rfl, fun _ _ => rfl⟩ <;> simp

theorem reportFault_channel (s : State) (c d : ChannelNo) (kind : FaultKind) (linked : Option (SlotNo × Lease)) :
    (s.reportFault c kind linked).channel d = s.channel d := by
  unfold State.reportFault
  split <;> rfl

theorem revokeForFault_channel {R : Channel → Prop} (hR : Channel.KeptByStage R) {s : State} {d : ChannelNo}
    (c : ChannelNo) (kind : FaultKind) (v : SlotNo) (l : Lease) (h : R (s.channel d)) :
    R ((s.revokeForFault c kind v l).channel d) :=
  pass_channel hR _ (endLease_channel hR v _ h)

/-- A policy does to a channel what the lease-end procedure and the pass do; under LATCH_OFF the faulted channel is locked out
first (R122 to R124). -/
theorem applyPolicy_channel {R : Channel → Prop} (hR : Channel.KeptByStage R) {s : State} {c d : ChannelNo}
    (kind : FaultKind) (linked : Option (SlotNo × Lease))
    (h : (s.channel c).config.policy ≠ .latchOff → R (s.channel d))
    (hlatch : (s.channel c).config.policy = .latchOff → R ((s.lockOut c).channel d)) :
    R ((s.applyPolicy c kind linked).channel d) := by
  unfold State.applyPolicy
  split
  · rename_i hp; exact h (by simp [hp])
  · rename_i hp; exact h (by simp [hp])
  · rename_i hp; exact revokeForFault_channel hR c kind _ _ (h (by simp [hp]))
  · rename_i hp; exact hlatch hp
  · rename_i hp; exact revokeForFault_channel hR c kind _ _ (hlatch hp)

theorem confirm_lawAt {s : State} {c : ChannelNo} {kind : FaultKind} {n : Nat} (hn : 1 ≤ n) (hn' : n ≤ 15)
    (hk : kind ≠ .none) {o : ChannelNo → Level} (h : ∀ d, (s.channel d).lawAt (o d)) (d : ChannelNo) :
    ((s.confirm c kind n).channel d).lawAt (o d) := by
  unfold State.confirm
  dsimp only
  refine applyPolicy_channel (lawAt_keptByStage (o d)) kind _ (fun hp => ?_) fun _ => ?_
  · rw [reportFault_channel, modifyChannel_channel_self] at hp
    rw [reportFault_channel, modifyChannel_channel]
    split
    · rename_i hd; subst hd; exact lawAt_faulted (h d) hn hn' hk hp
    · exact h d
  · rw [State.lockOut, modifyChannel_channel, reportFault_channel, modifyChannel_channel]
    split
    · rename_i hd; subst hd; exact lawAt_lockedOut (ch := s.channel d) (h d) hn hn' hk
    · exact h d

theorem disagreementKind_ne (o : Level) : disagreementKind o ≠ .none := by cases o <;> decide

theorem countDisagreement_lawAt {s : State} {c : ChannelNo} {n : Nat} (hn : 1 ≤ n) (hn' : n ≤ 15)
    (hu : (s.channel c).state ≠ .lockedOut) {o : ChannelNo → Level} (ho : (s.channel c).output = o c)
    (h : ∀ d, (s.channel d).lawAt (o d)) (d : ChannelNo) : ((s.countDisagreement c n).channel d).lawAt (o d) := by
  unfold State.countDisagreement
  dsimp only
  split
  · exact confirm_lawAt hn hn' (disagreementKind_ne _) h d
  · rename_i ht
    rw [modifyChannel_channel]
    split
    · rename_i hd
      subst hd
      refine ⟨(h d).settle, (h d).brk, (h d).config, ?_, fun _ => ⟨hn, not_le.1 ht, ?_, rfl⟩, ?_,
        fun hx => absurd hx hu, ?_⟩ <;> simp [disagreementKind, ho]
    · exact h d

/-- A visit keeps the law of the channels (R118 to R124, R126). -/
theorem sweepVisit_lawAt {s : State} (h : s.channelLaw) (d : ChannelNo) :
    ((s.sweepVisit).channel d).lawAt (s.channel d).output := by
  have hlaw : ∀ d, (s.channel d).lawAt (s.channel d).output := fun d => law_iff_lawAt.1 (h d)
  have hfault : ∀ {c : ChannelNo} {f : Channel → FaultRecord},
      ({ s.channel c with fault := f (s.channel c) } : Channel).lawAt (s.channel c).output →
      ((({ s with sweep := s.sweep + 1 } : State).modifyChannel c fun ch => { ch with fault := f ch }).channel d).lawAt
        (s.channel d).output := fun {c f} hc => by
    rw [modifyChannel_channel]
    split
    · rename_i hd; subst hd; exact hc
    · exact hlaw d
  unfold State.sweepVisit State.visit
  dsimp only
  split
  · unfold State.compare
    dsimp only
    have hc := hlaw s.sweep
    split
    · rename_i hf
      have hf : (s.channel s.sweep).fault.state = .faulted := hf
      exact hfault (f := fun ch => { ch.fault with present := _ })
        ⟨hc.settle, hc.brk, hc.config, by simp [hf], by simp [hf], hc.faulted, hc.lockedOut, hc.latchOff⟩
    · rename_i hf
      have hf : (s.channel s.sweep).fault.state = .healthy := hf
      split
      · exact countDisagreement_lawAt (s := { s with sweep := s.sweep + 1 }) le_rfl (by decide)
          (fun hx => by have := hc.lockedOut hx; simp [hf] at this) rfl hlaw d
      · exact hlaw d
    · rename_i hf
      have hf : (s.channel s.sweep).fault.state = .suspect := hf
      have hu : (s.channel s.sweep).state ≠ .lockedOut := fun hx => by have := hc.lockedOut hx; simp [hf] at this
      split
      · obtain ⟨-, hlt, -⟩ := hc.suspect hf
        have ht : (s.channel s.sweep).config.threshold ≤ 15 := hc.config.2.2.2.2
        exact countDisagreement_lawAt (s := { s with sweep := s.sweep + 1 }) (Nat.succ_pos _)
          (Nat.succ_le_of_lt (lt_of_lt_of_le hlt ht)) hu rfl hlaw d
      · exact hfault (f := fun _ => FaultRecord.healthy) (lawAt_healthy hc.settle hc.brk hc.config rfl hu)
  · exact hlaw d

/-! ### The law of the channels through every step -/

theorem perform_lawAt {s : State} (h : s.channelLaw) (i : Instr) (c : ChannelNo) :
    ((s.perform i).channel c).lawAt (s.channel c).output := by
  by_cases hi : ∃ fb, i = .sweepVisit fb
  · obtain ⟨fb, rfl⟩ := hi
    exact sweepVisit_lawAt h c
  · exact perform_channel (lawAt_keptByStage _) i (fun fb he => hi ⟨fb, he⟩) (law_iff_lawAt.1 (h c))

/-- The end of the event brings a SUSPECT record and the output level together (R5, R120). -/
theorem syncOutputs_channelLaw {s t : State} (h : ∀ c, (t.channel c).lawAt (s.channel c).output) :
    (syncOutputs s t).channelLaw := fun c => by
  rw [syncOutputs_channel]
  have hc := h c
  split
  · rename_i ho
    exact law_iff_lawAt.2 (ho ▸ hc)
  · rw [law_iff_lawAt]
    have hsus : (t.channel c).levelChanged.fault.state ≠ .suspect := by
      unfold Channel.levelChanged
      dsimp only
      split
      · decide
      · assumption
    have hlock : (t.channel c).state = .lockedOut → (t.channel c).levelChanged.fault.state = .faulted := fun hx => by
      have hf := hc.lockedOut hx
      simp [Channel.levelChanged, hf]
    have hfault : (t.channel c).levelChanged.fault.state = .faulted → (t.channel c).levelChanged.fault = (t.channel c).fault := by
      unfold Channel.levelChanged
      dsimp only
      split
      · intro hx; cases hx
      · exact fun _ => rfl
    refine ⟨Nat.zero_le _, hc.brk, hc.config, ?_, fun hx => absurd hx hsus, fun hx => ?_, hlock, fun hx hp => ?_⟩
    · unfold Channel.levelChanged
      dsimp only
      split
      · exact fun _ => ⟨rfl, rfl, rfl⟩
      · exact hc.healthy
    · have he := hfault hx
      rw [he] at hx ⊢
      exact hc.faulted hx
    · exact hc.latchOff (hfault hx ▸ hx) hp

theorem channelLaw_of_sameParts {s t : State} (h : s.sameParts t) (hs : s.channelLaw) : t.channelLaw := fun c => by
  rw [sameParts_channel h]; exact hs c

theorem completeReset_channel (s : State) (c : ChannelNo) : s.completeReset.channel c = Channel.reset := bank_get _ c

theorem completeReset_channelLaw (s : State) : s.completeReset.channelLaw := fun c => by
  rw [completeReset_channel]
  decide

theorem tick_breakRemaining (x : ChannelState) : x.tick.breakRemaining = x.breakRemaining := by cases x <;> rfl

theorem tick_eq_lockedOut (x : ChannelState) : x.tick = .lockedOut ↔ x = .lockedOut := by
  cases x <;> simp [ChannelState.tick]

theorem tick_output (ch : Channel) : ({ ch with state := ch.state.tick } : Channel).output = ch.output := by
  unfold Channel.output
  cases ch.state <;> rfl

theorem advance_channelLaw {s : State} (h : s.channelLaw) : s.advance.channelLaw := fun c => by
  rw [advance_channel, law_iff_lawAt, tick_output]
  exact lawAt_state (law_iff_lawAt.1 (h c)) (tick_eq_lockedOut _) (by rw [tick_breakRemaining]; exact le_max_left _ _)

theorem channelLaw_step {s t : State} (h : s.channelLaw) (ht : step s = .next t) : t.channelLaw :=
  step_keeps (P := State.channelLaw) (Q := fun s t => ∀ c, (t.channel c).lawAt (s.channel c).output)
    channelLaw_of_sameParts (fun {s} _ => completeReset_channelLaw s) advance_channelLaw
    (fun i {_} hs => perform_lawAt hs i) syncOutputs_channelLaw h ht

/-! ### The law of R123 -/

/-- A channel that is LOCKED_OUT, or FAULTED under the REVOKE policy, is linked to no lease (R123). -/
abbrev Channel.barredUnlinked (ch : Channel) : Prop :=
  ch.state = .lockedOut ∨ (ch.fault.state = .faulted ∧ ch.config.policy = .revoke) → ch.state.link = none

theorem barredUnlinked_of_available {ch : Channel} (h : ch.available = true) (x : ChannelState) (hx : x ≠ .lockedOut) :
    ({ ch with state := x } : Channel).barredUnlinked := by
  rintro (hl | ⟨hf, hp⟩)
  · exact absurd hl hx
  · simp only [Channel.available, Bool.and_eq_true, Bool.not_eq_true', Bool.and_eq_false_iff] at h
    rcases h.2 with hn | hn
    · rw [show ch.fault.state = .faulted from hf] at hn; cases hn
    · rw [show ch.config.policy = .revoke from hp] at hn; cases hn

/-- A change of state that makes no link where there was none. -/
theorem barredUnlinked_state {ch : Channel} {x : ChannelState} (h : ch.barredUnlinked)
    (hl : x = .lockedOut → ch.state = .lockedOut) (hx : ch.state.link = none → x.link = none) :
    ({ ch with state := x } : Channel).barredUnlinked := fun hb => hx (h (hb.imp_left hl))

theorem barredUnlinked_keptByStage : Channel.KeptByStage Channel.barredUnlinked where
  reserve {ch} w ha _ := barredUnlinked_of_available ha _ fun hx => not_lockedOut_of_available ha
    ((reserve_eq_lockedOut ch w).1 hx)
  handOver {ch} w ha _ := barredUnlinked_of_available ha _ fun hx => not_lockedOut_of_available ha
    ((handOver_eq_lockedOut ch w).1 hx)
  leave {ch} h _ := leave_link ch
  hold {ch} w inhibit level h := barredUnlinked_state h (hold_eq_lockedOut ch w inhibit level).1 (by
    unfold Channel.hold; split <;> simp_all [ChannelState.link])
  redrive {ch} level h := barredUnlinked_state h (redrive_eq_lockedOut ch level).1 (by
    unfold Channel.redrive; split <;> simp_all [ChannelState.link])
  endBreak {ch} h := barredUnlinked_state h (endBreak_eq_lockedOut ch).1 (by
    unfold Channel.endBreak; split <;> simp_all [ChannelState.link])
  count hx h := barredUnlinked_state h (by simp) (by rw [hx]; exact id)
  suspend {ch} h := barredUnlinked_state h (suspend_eq_lockedOut ch).1 (by
    rw [suspend_link]; exact id)
  settle h := h
  clearFault {ch} h := by
    rintro (hl | ⟨hf, -⟩)
    · exact absurd hl (unlock_ne ch.state)
    · simp [Channel.clearFault, FaultRecord.healthy] at hf
  configure _ hx _ _ := configure_link hx _

/-- Under REVOKE and LATCH_OFF the lease linked to the faulted channel ends, and leaves it (R123, R124). -/
theorem applyPolicy_barredUnlinked {s : State} (ht : s.tableLaw) (c : ChannelNo) (kind : FaultKind) :
    ((s.applyPolicy c kind (s.linkedLease c)).channel c).barredUnlinked := by
  have hends : ∀ {v l}, s.linkedLease c = some (v, l) →
      ((s.endLease v (.revokedFault (s.handle v) l.tag c kind)).channel c).barredUnlinked := fun hs _ =>
    endLease_unlinks ht (linkedLease_eq_some hs).1 _
  have hlocked : ((s.lockOut c).channel c).barredUnlinked := fun _ => by
    rw [State.lockOut, modifyChannel_channel_self]; rfl
  unfold State.applyPolicy
  split
  · rename_i hp
    rintro (hl | ⟨-, hr⟩)
    · rw [hl]; rfl
    · rw [hp] at hr; cases hr
  · rename_i hs
    exact fun _ => link_of_linkedLease_none ht hs
  · rename_i hs
    exact pass_channel barredUnlinked_keptByStage _ (hends hs)
  · exact hlocked
  · exact revokeForFault_channel barredUnlinked_keptByStage c kind _ _ hlocked

/-- A confirmed fault leaves the law of R123 in force. -/
theorem confirm_revokeLaw {s : State} (ht : s.tableLaw) (h : s.revokeLaw) (c : ChannelNo) (kind : FaultKind) (n : Nat) :
    (s.confirm c kind n).revokeLaw := by
  intro d
  unfold State.confirm
  dsimp only
  by_cases hd : d = c
  · subst hd
    have hs := sameTable_trans (sameTable_modifyFault s d fun _ =>
      { state := .faulted, count := n, kind := kind, present := true }) (sameTable_reportFault _ d kind (s.linkedLease d))
    have key := applyPolicy_barredUnlinked (tableLaw_of_sameTable hs ht) d kind
    rwa [reportFault_linkedLease, linkedLease_modifyFault] at key
  · refine applyPolicy_channel barredUnlinked_keptByStage kind _ (fun _ => ?_) fun _ => ?_
    · rw [reportFault_channel, modifyChannel_channel_ne _ hd]; exact h d
    · rw [State.lockOut, modifyChannel_channel_ne _ hd, reportFault_channel, modifyChannel_channel_ne _ hd]; exact h d

/-- A fault record that is not FAULTED bars no channel. -/
theorem modifyFault_revokeLaw {s : State} (h : s.revokeLaw) (c : ChannelNo) {f : Channel → FaultRecord}
    (hf : (f (s.channel c)).state = .faulted → (s.channel c).fault.state = .faulted) :
    (s.modifyChannel c fun ch => { ch with fault := f ch }).revokeLaw := fun d => by
  rw [modifyChannel_channel]
  split
  · rename_i hd
    subst hd
    exact fun hb => h d (hb.imp_right fun ⟨hx, hp⟩ => ⟨hf hx, hp⟩)
  · exact h d

theorem sweepVisit_revokeLaw {s : State} (ht : s.tableLaw) (h : s.revokeLaw) : s.sweepVisit.revokeLaw := by
  have ht' : ({ s with sweep := s.sweep + 1 } : State).tableLaw :=
    tableLaw_of_sameTable (sameTable_of_sameParts (s := s) ⟨rfl, rfl, rfl, rfl, rfl⟩) ht
  have h' : ({ s with sweep := s.sweep + 1 } : State).revokeLaw := h
  have hcount : ∀ c n, (({ s with sweep := s.sweep + 1 } : State).countDisagreement c n).revokeLaw := fun c n => by
    unfold State.countDisagreement
    dsimp only
    split
    · exact confirm_revokeLaw ht' h' c _ n
    · exact modifyFault_revokeLaw h' c fun hx => by cases hx
  unfold State.sweepVisit State.visit
  dsimp only
  split
  · unfold State.compare
    dsimp only
    split
    · exact modifyFault_revokeLaw h' _ id
    · split
      · exact hcount _ _
      · exact h'
    · split
      · exact hcount _ _
      · exact modifyFault_revokeLaw h' _ fun hx => by cases hx
  · exact h'

theorem perform_revokeLaw {s : State} (ht : s.tableLaw) (h : s.revokeLaw) (i : Instr) : (s.perform i).revokeLaw := by
  by_cases hi : ∃ fb, i = .sweepVisit fb
  · obtain ⟨fb, rfl⟩ := hi
    exact sweepVisit_revokeLaw ht h
  · exact fun c => perform_channel barredUnlinked_keptByStage i (fun fb he => hi ⟨fb, he⟩) (h c)

theorem syncOutputs_revokeLaw {s t : State} (h : t.revokeLaw) : (syncOutputs s t).revokeLaw := fun c => by
  rw [syncOutputs_channel]
  split
  · exact h c
  · refine fun hb => h c (hb.imp_right fun ⟨hf, hp⟩ => ⟨?_, hp⟩)
    revert hf
    unfold Channel.levelChanged
    dsimp only
    split
    · intro hf; cases hf
    · exact id

theorem tick_link (x : ChannelState) : x.tick.link = x.link := by cases x <;> rfl

theorem advance_revokeLaw {s : State} (h : s.revokeLaw) : s.advance.revokeLaw := fun c => by
  rw [advance_channel]
  exact fun hb => (tick_link _).trans (h c (hb.imp_left (tick_eq_lockedOut _).1))

theorem revokeLaw_of_sameParts {s t : State} (h : s.sameParts t) (hs : s.revokeLaw) : t.revokeLaw := fun c => by
  rw [sameParts_channel h]; exact hs c

theorem completeReset_revokeLaw (s : State) : s.completeReset.revokeLaw := fun c _ => by
  rw [completeReset_channel]; rfl

/-- Every step keeps the law of R123 of a part whose links are those of its lease table. -/
theorem revokeLaw_step {s t : State} (ht : s.tableLaw) (h : s.revokeLaw) (hst : step s = .next t) : t.revokeLaw :=
  step_leads (P := fun s => s.tableLaw ∧ s.revokeLaw) (P' := State.revokeLaw) (Q := fun _ t => t.revokeLaw)
    (fun hp ⟨ht, h⟩ => ⟨tableLaw_of_sameTable (sameTable_of_sameParts hp) ht, revokeLaw_of_sameParts hp h⟩)
    revokeLaw_of_sameParts And.right (fun {s} _ => completeReset_revokeLaw s) (fun h => advance_revokeLaw h.2)
    (fun i {_} h => perform_revokeLaw h.1 h.2 i) syncOutputs_revokeLaw ⟨ht, h⟩ hst

/-- Settles O57: the law of a channel holds at the level that the event found it at while the event is under way, and the end of
the event brings it to the level it leaves; the law of R123 needs the lease table's law for the lease that a fault revokes. -/
theorem channelLawKept : Obligations.ChannelLawKept := fun _ _ hst =>
  ⟨fun h => channelLaw_step h hst, fun ht h => revokeLaw_step ht h hst⟩

end Sys2Proof.Machine
end

section
/-! PROOFS. The arbitration pass entry by entry (R50): what a grant leaves of the queue ahead of it and of the leases that are not
its own, why the fuel of the pass outlasts it, and the grant as one record update (R51). -/

namespace Sys2Proof.Machine

/-! ### The pass from an entry on -/

theorem queue_split {q : List SlotNo} {i : Nat} {w : SlotNo} (h : q[i]? = some w) :
    q = q.take i ++ w :: q.drop (i + 1) := by
  obtain ⟨hi, rfl⟩ := List.getElem?_eq_some_iff.1 h
  rw [List.cons_getElem_drop_succ, List.take_append_drop]

theorem passFrom_past {s : State} {i : Nat} (h : s.waitQueue[i]? = none) (own : Option SlotNo) (fuel : Nat) :
    State.passFrom own fuel i s = s := by
  cases fuel with
  | zero => rfl
  | succ fuel => simp only [State.passFrom, h]

theorem passFrom_skip {s : State} {i : Nat} {w : SlotNo} (h : s.waitQueue[i]? = some w)
    (hg : s.grantable (s.waitQueue.take i) w = false) (own : Option SlotNo) (fuel : Nat) :
    State.passFrom own (fuel + 1) i s = State.passFrom own fuel (i + 1) s := by
  simp only [State.passFrom, h, hg]
  rfl

theorem passFrom_grant {s : State} {i : Nat} {w : SlotNo} (h : s.waitQueue[i]? = some w)
    (hg : s.grantable (s.waitQueue.take i) w = true) (own : Option SlotNo) (fuel : Nat) :
    State.passFrom own (fuel + 1) i s = State.passFrom own fuel i (s.grant own w) := by
  simp only [State.passFrom, h, hg, if_true]

/-- A pass of a settled part changes nothing (R50). -/
theorem passFrom_of_settled {s : State} (h : s.settled) (own : Option SlotNo) (fuel i : Nat) :
    State.passFrom own fuel i s = s := by
  induction fuel generalizing i with
  | zero => rfl
  | succ fuel ih =>
    cases hw : s.waitQueue[i]? with
    | none => exact passFrom_past hw own _
    | some w => rw [passFrom_skip hw (h _ _ _ (queue_split hw)), ih]

/-- A pass goes over the entries of `front` when none of them is grantable where it stands. -/
theorem passFrom_over {s : State} {front back : List SlotNo} (hq : s.waitQueue = front ++ back)
    (hn : ∀ f u b, front = f ++ u :: b → s.grantable f u = false) (own : Option SlotNo) (fuel : Nat) :
    State.passFrom own (fuel + front.length) 0 s = State.passFrom own fuel front.length s := by
  have key : ∀ k, k ≤ front.length → State.passFrom own (fuel + front.length) 0 s =
      State.passFrom own (fuel + front.length - k) k s := by
    intro k
    induction k with
    | zero => exact fun _ => rfl
    | succ k ih =>
      intro hk
      have hk' : k < front.length := hk
      have hu : s.waitQueue[k]? = some front[k] := by
        rw [hq, List.getElem?_append_left hk', List.getElem?_eq_getElem hk']
      have ht : s.waitQueue.take k = front.take k := by rw [hq, List.take_append_of_le_length hk'.le]
      rw [ih hk'.le, show fuel + front.length - k = (fuel + front.length - (k + 1)) + 1 by omega]
      refine passFrom_skip hu ?_ own _
      rw [ht]
      exact hn _ _ _ (queue_split (List.getElem?_eq_getElem hk'))
  rw [key front.length le_rfl, Nat.add_sub_cancel]

/-! ### The leases after a grant -/

theorem preempts_lease_ne (w : SlotNo) (wset : Word) (vs : List SlotNo) {u : SlotNo} (hu : u ∉ vs) (s : State) :
    (vs.foldl (State.preempt w wset) s).lease? u = s.lease? u := by
  induction vs generalizing s with
  | nil => rfl
  | cons v vs ih =>
    obtain ⟨huv, hus⟩ := not_or.1 (List.mem_cons.not.1 hu)
    rw [List.foldl_cons, ih hus, preempt_lease_ne huv]

/-- A lease that is live after pre-emptions was live before them, and stands or waits again with its record of R56. -/
theorem preempts_lease (w : SlotNo) (wset : Word) (vs : List SlotNo) {s : State} {u : SlotNo} {m : Lease}
    (h : (vs.foldl (State.preempt w wset) s).lease? u = some m) :
    ∃ m', s.lease? u = some m' ∧ (m = m' ∨ m = m'.requeuedRecord) := by
  induction vs generalizing s with
  | nil => exact ⟨m, h, .inl rfl⟩
  | cons v vs ih =>
    obtain ⟨m1, h1, hm1⟩ := ih h
    by_cases hu : u = v
    · subst hu
      cases hl : s.lease? u with
      | none => simp [State.preempt, hl] at h1
      | some m2 =>
        rw [preempt_lease_self hl] at h1
        split at h1 <;> cases h1
        exact ⟨m2, rfl, .inr (hm1.elim id id)⟩
    · exact ⟨m1, preempt_lease_ne hu s w wset ▸ h1, hm1⟩

section grant
variable {s : State} {ahead : List SlotNo} {w : SlotNo} {l : Lease} (h : s.tableLaw) (hl : s.lease? w = some l)
  (hw : l.state = .waiting) (hg : s.grantable ahead w = true) (own : Option SlotNo)
include h hl hw hg

/-- The grant reserves the set, and holds the lease unless a channel of it is in BREAK (R51). -/
theorem grant_cases : s.grant own w = (s.cleared w l).reserveSet w l.set ∨
    s.grant own w = ((s.cleared w l).reserveSet w l.set).heldBy own w l.grantedRecord := by
  have hr := reserveSet_reservedTo h hl hw hg
  rw [grant_eq hl]
  unfold State.holdUnlessBreak
  cases hb : ((s.cleared w l).reserveSet w l.set).anyBreak l.set with
  | true => exact .inl rfl
  | false => exact .inr (holdLease_of_reservedTo hr hb own)

theorem grant_lease_ne {u : SlotNo} (hu : u ≠ w) : (s.grant own w).lease? u = (s.cleared w l).lease? u := by
  rcases grant_cases h hl hw hg own with he | he
  · rw [he, reserveSet_lease, if_neg hu]
  · rw [he, heldBy_lease, if_neg hu, reserveSet_lease, if_neg hu]

theorem grant_lease_self : ∃ m, (s.grant own w).lease? w = some m ∧ m.state ≠ .waiting ∧ m.priority = l.priority := by
  have hr := reserveSet_reservedTo h hl hw hg
  rcases grant_cases h hl hw hg own with he | he
  · exact ⟨l.grantedRecord, he ▸ hr.lease, by simp [Lease.grantedRecord], rfl⟩
  · rw [he, heldBy_lease, if_pos rfl]
    refine ⟨_, rfl, ?_, rfl⟩
    dsimp only
    split <;> simp

theorem grant_waitQueue : (s.grant own w).waitQueue = (s.cleared w l).waitQueue.filter (· != w) := by
  rcases grant_cases h hl hw hg own with he | he
  · rw [he]; rfl
  · rw [he, heldBy_waitQueue]; rfl

theorem grant_channel_outside {c : ChannelNo} (hc : inSet l.set c = false) :
    (s.grant own w).channel c = (s.cleared w l).channel c := by
  rcases grant_cases h hl hw hg own with he | he
  · rw [he, reserveSet_channel, hc]; rfl
  · rw [he, heldBy_channel, show l.grantedRecord.set = l.set from rfl, hc, reserveSet_channel, hc]; rfl

omit hw in
/-- A victim does not wait, and has a priority below the winner's (R48, R53). -/
theorem victim_of_grantable {v : SlotNo} (hv : v ∈ s.victims l.set) :
    ∃ m, s.lease? v = some m ∧ m.state ≠ .waiting ∧ m.preemptible = true ∧ m.priority < l.priority := by
  obtain ⟨c, hc, hcv⟩ := mem_victims.1 hv
  obtain ⟨m, hm, -, hmw⟩ := not_waiting_of_link (tableLaw_iff.1 h) (Set.notMem_empty v) hcv
  have hy := yields_of_grantable hl hg hc hcv
  simp only [State.yields, hm, Bool.and_eq_true, decide_eq_true_eq] at hy
  exact ⟨m, hm, hmw, hy.1, hy.2⟩

theorem grant_lease_eq {u : SlotNo} (hu : u ≠ w) (huv : u ∉ s.victims l.set) :
    (s.grant own w).lease? u = s.lease? u := by
  rw [grant_lease_ne h hl hw hg own hu, preempts_lease_ne w l.set _ huv]

theorem grant_priorityOf {u : SlotNo} {m : Lease} (hm : (s.grant own w).lease? u = some m) :
    (s.grant own w).priorityOf u = s.priorityOf u := by
  by_cases hu : u = w
  · subst hu
    obtain ⟨m', hm', -, hp⟩ := grant_lease_self h hl hw hg own
    rw [priorityOf_eq hm', hp, priorityOf_eq hl]
  · rw [priorityOf_eq hm]
    rw [grant_lease_ne h hl hw hg own hu] at hm
    obtain ⟨m', hm', he⟩ := preempts_lease w l.set _ hm
    rw [priorityOf_eq hm']
    rcases he with rfl | rfl <;> rfl

end grant

/-! ### The queue after a grant -/

/-- The victims of a grant join the queue behind the winner (R46, R48): what stands ahead of it stands. -/
theorem preempts_waitQueue {w : SlotNo} {l : Lease} {front : List SlotNo} (vs : List SlotNo) {s : State} {back : List SlotNo}
    (hq : s.waitQueue = front ++ w :: back) (hf : ∀ u ∈ front, u ∉ vs ∧ l.priority ≤ s.priorityOf u) (hw : w ∉ vs)
    (hl : s.lease? w = some l) (hn : vs.Nodup)
    (hv : ∀ v ∈ vs, ∃ m, s.lease? v = some m ∧ m.priority < l.priority) :
    ∃ rest, (vs.foldl (State.preempt w l.set) s).waitQueue = front ++ w :: rest ∧ ∀ u ∈ rest, u ∈ back ∨ u ∈ vs := by
  induction vs generalizing s back with
  | nil => exact ⟨back, hq, fun u hu => .inl hu⟩
  | cons v vs ih =>
    obtain ⟨hvs, hn⟩ := List.nodup_cons.1 hn
    obtain ⟨hwv, hwvs⟩ := not_or.1 (List.mem_cons.not.1 hw)
    obtain ⟨m, hm, hlt⟩ := hv v (.head vs)
    have hlease : ∀ {u}, u ≠ v → (State.preempt w l.set s v).lease? u = s.lease? u := fun hu => preempt_lease_ne hu s w l.set
    have hnext : ∃ back', (State.preempt w l.set s v).waitQueue = front ++ w :: back' ∧
        ∀ u ∈ back', u ∈ back ∨ u = v := by
      rw [preempt_waitQueue hm]
      split
      · have hfront : ∀ u ∈ front, decide (m.priority < s.priorityOf u) = true := fun u hu =>
          decide_eq_true (lt_of_lt_of_le hlt (hf u hu).2)
        have hwpos : (fun u => decide (m.priority < s.priorityOf u)) w = true :=
          decide_eq_true (by rw [priorityOf_eq hl]; exact hlt)
        rw [hq, List.takeWhile_append_of_pos hfront, List.dropWhile_append_of_pos hfront,
          List.takeWhile_cons_of_pos (p := fun u => decide (m.priority < s.priorityOf u)) hwpos,
          List.dropWhile_cons_of_pos (p := fun u => decide (m.priority < s.priorityOf u)) hwpos]
        refine ⟨_, List.append_assoc _ _ _, fun u hu => ?_⟩
        exact ((mem_insert_queue _ v u).1 hu).symm
      · exact ⟨back, hq, fun u hu => .inl hu⟩
    obtain ⟨back', hq', hb'⟩ := hnext
    obtain ⟨rest, hr, hmem⟩ := ih hq' (fun u hu => by
        obtain ⟨hnot, hp⟩ := hf u hu
        obtain ⟨huv, hus⟩ := not_or.1 (List.mem_cons.not.1 hnot)
        exact ⟨hus, by rwa [priorityOf_of_lease (hlease huv)]⟩) hwvs ((hlease hwv).trans hl) hn fun x hx => by
        rw [hlease (ne_of_mem_of_not_mem hx hvs)]
        exact hv x (.tail v hx)
    refine ⟨rest, hr, fun u hu => ?_⟩
    rcases hmem u hu with hx | hx
    · rcases hb' u hx with hx | rfl
      · exact .inl hx
      · exact .inr (.head vs)
    · exact .inr (.tail v hx)

section queue
variable {s : State} {front back : List SlotNo} {w : SlotNo} {l : Lease} (h : s.tableLaw)
  (hq : s.waitQueue = front ++ w :: back) (hl : s.lease? w = some l) (hw : l.state = .waiting)
  (hg : s.grantable front w = true) (own : Option SlotNo)
include h hq hl hw hg

omit hg hw in
theorem le_priority_of_front {u : SlotNo} (hu : u ∈ front) : l.priority ≤ s.priorityOf u := by
  have hp := h.1.2.2
  rw [hq, List.pairwise_append] at hp
  have := hp.2.2 u hu w (.head back)
  rwa [priorityOf_eq hl] at this

omit hg hw in
theorem priority_le_of_back {u : SlotNo} (hu : u ∈ back) : s.priorityOf u ≤ l.priority := by
  have hp := h.1.2.2
  rw [hq, List.pairwise_append, List.pairwise_cons] at hp
  have := hp.2.1.1 u hu
  rwa [priorityOf_eq hl] at this

omit hl hw hg in
theorem not_mem_split : w ∉ front ∧ w ∉ back := by
  have hn := h.1.1
  rw [hq, List.nodup_middle, List.nodup_cons, List.mem_append, not_or] at hn
  exact hn.1

omit hq hw in
/-- A waiting lease is no victim (R53). -/
theorem front_not_victim {u : SlotNo} (hu : u ∈ s.waitQueue) : u ∉ s.victims l.set := fun hv => by
  obtain ⟨m, hm, hmw, -⟩ := victim_of_grantable h hl hg hv
  obtain ⟨m', hm', hw'⟩ := waiting_of_mem_queue h hu
  obtain rfl : m = m' := Option.some_inj.1 (hm.symm.trans hm')
  exact hmw hw'

/-- The queue after a grant: what stood ahead of the winner, then entries that stood behind it and victims. -/
theorem grant_queue : ∃ rest, (s.grant own w).waitQueue = front ++ rest ∧ w ∉ rest ∧
    ∀ u ∈ rest, u ∈ back ∨ u ∈ s.victims l.set := by
  obtain ⟨rest, hr, hmem⟩ := preempts_waitQueue (l := l) (s.victims l.set) hq
    (fun u hu => ⟨front_not_victim h hl hg (hq ▸ List.mem_append_left _ hu), le_priority_of_front h hq hl hu⟩)
    (fun hv => victims_ne h hl hw hv rfl) hl ((List.nodup_finRange 24).filter _)
    fun v hv => by
      obtain ⟨m, hm, -, -, hp⟩ := victim_of_grantable h hl hg hv
      exact ⟨m, hm, hp⟩
  have hfront : front.filter (· != w) = front := List.filter_eq_self.2 fun u hu => by
    simpa using ne_of_mem_of_not_mem hu (not_mem_split h hq).1
  refine ⟨rest.filter (· != w), ?_, by simp, fun u hu => hmem u (List.mem_of_mem_filter hu)⟩
  rw [grant_waitQueue h hl hw hg own, show (s.cleared w l).waitQueue = front ++ w :: rest from hr, List.filter_append,
    List.filter_cons_of_neg (by simp), hfront]

/-! ### What stood ahead stays as it was -/

omit hq in
/-- A channel outside the winner's set is as available after the grant as it was. -/
theorem available_of_grant {c : ChannelNo} (hc : inSet l.set c = false)
    (ha : ((s.grant own w).channel c).available = true) : (s.channel c).available = true := by
  have hlo := grant_leasesOnly s own w
  have hstate : (s.channel c).state = .lockedOut → ((s.grant own w).channel c).state = .lockedOut := fun hx => by
    rw [grant_channel_outside h hl hw hg own hc]
    have key : ∀ (vs : List SlotNo) (u : State), (u.channel c).state = .lockedOut →
        ((vs.foldl (State.preempt w l.set) u).channel c).state = .lockedOut := by
      intro vs
      induction vs with
      | nil => exact fun _ hu => hu
      | cons v vs ih =>
        intro u hu
        refine ih _ ?_
        cases hm : u.lease? v with
        | none => simpa only [State.preempt, hm] using hu
        | some m =>
          rw [preempt_channel hm]
          split
          · simp [hc, (leave_eq_lockedOut _).2 hu]
          · exact hu
    exact key _ s hx
  simp only [Channel.available, hlo.config, hlo.fault, Bool.and_eq_true, bne_iff_ne] at ha ⊢
  exact ⟨⟨ha.1.1, fun hx => ha.1.2 (hstate hx)⟩, ha.2⟩

/-- An entry ahead of the winner that was not grantable is not grantable after the grant: what the victims leave, it could have
taken itself (R48, R49). -/
theorem grantable_of_grant {f b : List SlotNo} {u : SlotNo} (hf : front = f ++ u :: b)
    (hu : (s.grant own w).grantable f u = true) : s.grantable f u = true := by
  have hmem : ∀ {x}, x ∈ front → x ∈ s.waitQueue := fun hx => hq ▸ List.mem_append_left _ hx
  have huf : u ∈ front := by rw [hf]; simp
  have hlease : ∀ {x}, x ∈ front → (s.grant own w).lease? x = s.lease? x := fun hx =>
    grant_lease_eq h hl hw hg own (ne_of_mem_of_not_mem hx (not_mem_split h hq).1)
      (front_not_victim h hl hg (hmem hx))
  obtain ⟨m, hm, hmw⟩ := waiting_of_mem_queue h (hmem huf)
  have hpr : l.priority ≤ m.priority := priorityOf_eq hm ▸ le_priority_of_front h hq hl huf
  have hdisj : ∀ {c}, inSet m.set c = true → inSet l.set c = false := fun {c} hc => by
    have hg' := hg
    simp only [State.grantable, hl, State.queuePasses, Bool.and_eq_true, List.all_eq_true] at hg'
    have := hg'.2 u huf
    rw [hm] at this
    simp only [Bool.not_eq_true'] at this
    by_contra hcl
    exact absurd ((overlaps_iff m.set l.set).2 ⟨c, hc, by simpa using hcl⟩) (by simp [this])
  obtain ⟨-, hlink⟩ := taking_preempts (s.victims l.set) (taking_of_grantable h hl hw hg)
    ((List.nodup_finRange 24).filter _) fun v hv => ⟨victims_ne h hl hw hv, mem_victims.1 hv⟩
  simp only [State.grantable, hlease huf, hm, Bool.and_eq_true, List.all_eq_true, Bool.or_eq_true, Bool.not_eq_true'] at hu ⊢
  refine ⟨fun c hc => ?_, ?_⟩
  · by_cases hcm : inSet m.set c = true
    · have hp := (hu.1 c hc).resolve_left (by simp [hcm])
      simp only [State.channelPasses, Bool.and_eq_true] at hp ⊢
      refine .inr ⟨available_of_grant h hl hw hg own (hdisj hcm) hp.1, ?_⟩
      cases hx : (s.channel c).state.link with
      | none => rfl
      | some x =>
        have hxw : x ≠ w := by
          rintro rfl
          exact ((tableLaw_iff.1 h).set hl (Set.notMem_empty x)).1 hw c hx
        by_cases hxv : x ∈ s.victims l.set
        · obtain ⟨mx, hmx, -, hpre, hlt⟩ := victim_of_grantable h hl hg hxv
          simp [State.yields, hmx, hpre, lt_of_lt_of_le hlt hpr]
        · have hgx : ((s.grant own w).channel c).state.link = some x := by
            rw [grant_channel_outside h hl hw hg own (hdisj hcm)]
            exact (hlink c x hxw).2 ⟨hxv, hx⟩
          have hy := hp.2
          rw [hgx] at hy
          simpa only [State.yields, grant_lease_eq h hl hw hg own hxw hxv] using hy
    · exact .inl (by simpa using hcm)
  · have hqp := hu.2
    simp only [State.queuePasses, List.all_eq_true] at hqp ⊢
    intro x hx
    have := hqp x hx
    rwa [hlease (by rw [hf]; exact List.mem_append_left _ hx)] at this

end queue

/-! ### The fuel of the pass -/

/-- The slots that a pass from entry `i` on may still examine: those behind that entry, and the leases that do not wait and have a
priority below that of one of them, which its grant may return to the queue (R50, R53). -/
def State.inReach (s : State) (i : Nat) : Finset SlotNo :=
  Finset.univ.filter fun v => v ∈ s.waitQueue.drop i ∨
    ∃ u ∈ s.waitQueue.drop i, s.priorityOf v < s.priorityOf u ∧ ∃ m ∈ s.lease? v, m.state ≠ .waiting

theorem mem_inReach {s : State} {i : Nat} {v : SlotNo} : v ∈ s.inReach i ↔ v ∈ s.waitQueue.drop i ∨
    ∃ u ∈ s.waitQueue.drop i, s.priorityOf v < s.priorityOf u ∧ ∃ m ∈ s.lease? v, m.state ≠ .waiting := by
  simp [State.inReach]

theorem inReach_card_le (s : State) (i : Nat) : (s.inReach i).card ≤ 24 :=
  (Finset.card_le_univ _).trans_eq (Fintype.card_fin 24)

/-- An entry that is passed over is out of reach. -/
theorem inReach_skip {s : State} (h : s.tableLaw) {i : Nat} {w : SlotNo} (hi : s.waitQueue[i]? = some w) :
    s.inReach (i + 1) ⊂ s.inReach i := by
  have hq := queue_split hi
  have hd : s.waitQueue.drop i = w :: s.waitQueue.drop (i + 1) := by
    obtain ⟨hlt, rfl⟩ := List.getElem?_eq_some_iff.1 hi
    exact List.drop_eq_getElem_cons hlt
  obtain ⟨l, hl, hw⟩ := waiting_of_mem_queue h (List.mem_of_getElem? hi)
  refine Finset.ssubset_iff_of_subset (fun v hv => ?_) |>.2 ⟨w, mem_inReach.2 (.inl (by rw [hd]; exact .head _)), fun hx => ?_⟩
  · rw [mem_inReach] at hv ⊢
    rw [hd]
    exact hv.imp (.tail w) fun ⟨u, hu, hx⟩ => ⟨u, .tail w hu, hx⟩
  · rcases mem_inReach.1 hx with hx | ⟨-, -, -, m, hm, hmw⟩
    · exact (not_mem_split h hq).2 hx
    · obtain rfl : l = m := Option.some_inj.1 (hl.symm.trans hm)
      exact hmw hw

/-- A lease that is granted is out of reach, and what its grant brings into the queue was in reach. -/
theorem inReach_grant {s : State} (h : s.tableLaw) {i : Nat} {w : SlotNo} (hi : s.waitQueue[i]? = some w)
    (hg : s.grantable (s.waitQueue.take i) w = true) (own : Option SlotNo) : (s.grant own w).inReach i ⊂ s.inReach i := by
  have hq := queue_split hi
  have hlt : i < s.waitQueue.length := (List.getElem?_eq_some_iff.1 hi).1
  have hlen : (s.waitQueue.take i).length = i := List.length_take_of_le hlt.le
  have hd : s.waitQueue.drop i = w :: s.waitQueue.drop (i + 1) := by
    obtain ⟨hlt, rfl⟩ := List.getElem?_eq_some_iff.1 hi
    exact List.drop_eq_getElem_cons hlt
  obtain ⟨l, hl, hw⟩ := waiting_of_mem_queue h (List.mem_of_getElem? hi)
  obtain ⟨rest, hr, hwr, hmem⟩ := grant_queue h hq hl hw hg own
  have hrest : (s.grant own w).waitQueue.drop i = rest := by
    rw [hr, List.drop_append_of_le_length hlen.ge, List.drop_of_length_le hlen.le, List.nil_append]
  obtain ⟨mw, hmw, hmww, hmwp⟩ := grant_lease_self h hl hw hg own
  have ht := grant_tableLaw h hl hw hg own
  have hpr : ∀ {u m}, (s.grant own w).lease? u = some m → (s.grant own w).priorityOf u = s.priorityOf u :=
    fun hm => grant_priorityOf h hl hw hg own hm
  have hprest : ∀ {u}, u ∈ rest → (s.grant own w).priorityOf u = s.priorityOf u := fun {u} hu => by
    obtain ⟨m, hm, -⟩ := waiting_of_mem_queue ht (hr ▸ List.mem_append_right _ hu)
    exact hpr hm
  have hle : ∀ {u}, u ∈ rest → s.priorityOf u ≤ l.priority := fun {u} hu => by
    rcases hmem u hu with hx | hx
    · exact priority_le_of_back h hq hl hx
    · obtain ⟨m, hm, -, -, hp⟩ := victim_of_grantable h hl hg hx
      exact priorityOf_eq hm ▸ hp.le
  have hwd : w ∈ s.waitQueue.drop i := by rw [hd]; exact .head _
  have hwp : s.priorityOf w = l.priority := priorityOf_eq hl
  have hgone : w ∉ (s.grant own w).inReach i := fun hx => by
    rcases mem_inReach.1 hx with hx | ⟨u, hu, hlt, -⟩
    · exact hwr (hrest ▸ hx)
    · rw [hrest] at hu
      rw [hprest hu, hpr hmw, hwp] at hlt
      exact absurd (hle hu) (not_le.2 hlt)
  refine Finset.ssubset_iff_of_subset (fun v hv => ?_) |>.2 ⟨w, mem_inReach.2 (.inl hwd), hgone⟩
  have hvw : v ≠ w := fun he => hgone (he ▸ hv)
  rw [mem_inReach] at hv ⊢
  rw [hrest] at hv
  rcases hv with hv | ⟨u, hu, hlt, m, hm, hmw'⟩
  · rcases hmem v hv with hx | hx
    · exact .inl (by rw [hd]; exact .tail w hx)
    · obtain ⟨m, hm, hmw', -, hp⟩ := victim_of_grantable h hl hg hx
      exact .inr ⟨w, hwd, by rw [priorityOf_eq hm, hwp]; exact hp, m, hm, hmw'⟩
  · have hm : (s.grant own w).lease? v = some m := hm
    have hold : s.lease? v = some m := by
      have hm' := hm
      rw [grant_lease_ne h hl hw hg own hvw] at hm'
      obtain ⟨m', hm', he⟩ := preempts_lease w l.set _ hm'
      rcases he with rfl | rfl
      · exact hm'
      · exact absurd rfl hmw'
    rw [hprest hu, hpr hm] at hlt
    exact .inr ⟨w, hwd, by rw [hwp]; exact lt_of_lt_of_le hlt (hle hu), m, hold, hmw'⟩

/-- With fuel for every slot in reach a pass ends before its fuel does, whatever the fuel (notes/assumptions/16.md). -/
theorem passFrom_fuel (own : Option SlotNo) {fuel fuel' i : Nat} {s : State} (h : s.tableLaw)
    (hf : (s.inReach i).card ≤ fuel) (hf' : (s.inReach i).card ≤ fuel') :
    State.passFrom own fuel i s = State.passFrom own fuel' i s := by
  induction fuel generalizing fuel' i s with
  | zero =>
    cases hi : s.waitQueue[i]? with
    | none => rw [passFrom_past hi, passFrom_past hi]
    | some w => exact absurd (Finset.card_lt_card (inReach_skip h hi)) (by omega)
  | succ fuel ih =>
    cases hi : s.waitQueue[i]? with
    | none => rw [passFrom_past hi, passFrom_past hi]
    | some w =>
      have hskip := Finset.card_lt_card (inReach_skip h hi)
      obtain ⟨fuel', rfl⟩ : ∃ k, fuel' = k + 1 := ⟨fuel' - 1, by omega⟩
      cases hg : s.grantable (s.waitQueue.take i) w with
      | false =>
        rw [passFrom_skip hi hg, passFrom_skip hi hg]
        exact ih h (by omega) (by omega)
      | true =>
        obtain ⟨l, hl, hw⟩ := waiting_of_mem_queue h (List.mem_of_getElem? hi)
        have hgr := Finset.card_lt_card (inReach_grant h hi hg own)
        rw [passFrom_grant hi hg, passFrom_grant hi hg]
        exact ih (grant_tableLaw h hl hw hg own) (by omega) (by omega)

/-- A pass grants the first grantable entry and goes on as a pass of the part that the grant leaves (R50). -/
theorem pass_eq_grant_pass {s : State} (h : s.tableLaw) {front back : List SlotNo} {w : SlotNo}
    (hq : s.waitQueue = front ++ w :: back) (hg : s.grantable front w = true)
    (hn : ∀ f u b, front = f ++ u :: b → s.grantable f u = false) (own : Option SlotNo) :
    s.pass own = (s.grant own w).pass own := by
  have hi : s.waitQueue[front.length]? = some w := by rw [hq]; simp
  have ht : s.waitQueue.take front.length = front := by rw [hq]; simp
  obtain ⟨l, hl, hw⟩ := waiting_of_mem_queue h (List.mem_of_getElem? hi)
  obtain ⟨rest, hr, -, -⟩ := grant_queue h hq hl hw hg own
  have hn' : ∀ f u b, front = f ++ u :: b → (s.grant own w).grantable f u = false := fun f u b hf => by
    by_contra hx
    have := grantable_of_grant h hq hl hw hg own hf (by simpa using hx)
    rw [hn f u b hf] at this
    cases this
  have hlaw := grant_tableLaw h hl hw hg own
  have hreach := inReach_card_le (s.grant own w) front.length
  calc s.pass own
      = State.passFrom own ((back.length + 25) + front.length) 0 s := by
        rw [State.pass, hq, List.length_append, List.length_cons]; congr 1; omega
    _ = State.passFrom own (back.length + 25) front.length s := passFrom_over hq hn own _
    _ = State.passFrom own (back.length + 24) front.length (s.grant own w) :=
        passFrom_grant hi (by rw [ht]; exact hg) own _
    _ = State.passFrom own (rest.length + 24) front.length (s.grant own w) :=
        passFrom_fuel own hlaw (by omega) (by omega)
    _ = State.passFrom own ((rest.length + 24) + front.length) 0 (s.grant own w) := (passFrom_over hr hn' own _).symm
    _ = (s.grant own w).pass own := by
        rw [State.pass, hr, List.length_append]; congr 1; omega

/-! ### The grant as one update -/

/-- The part after steps 2 and 3 of the grant (R51), as one record update. -/
theorem reserveSet_eq {s : State} {ahead : List SlotNo} {w : SlotNo} {l : Lease} (h : s.tableLaw)
    (hl : s.lease? w = some l) (hw : l.state = .waiting) (hg : s.grantable ahead w = true) :
    (s.cleared w l).reserveSet w l.set = { (s.cleared w l).setLease w l.grantedRecord with
      channels := bank fun c => if inSet l.set c then
          { (s.cleared w l).channel c with state := match ((s.cleared w l).channel c).state with
            | .brk _ remaining ms => .brk (some w) remaining ms
            | _ => .reserved w }
        else (s.cleared w l).channel c
      waitQueue := (s.cleared w l).waitQueue.filter (· ≠ w) } := by
  have ht := (taking_cleared h hl hw hg).1
  apply state_ext <;> intros <;> try rfl
  case hc c =>
    rw [reserveSet_channel]
    refine Eq.trans ?_ (bank_get _ c).symm
    split
    · rename_i hc
      exact congrArg (fun x => { (s.cleared w l).channel c with state := x }) (reserve_cleared h hl hw hg hc)
    · rfl
  case hs v =>
    have hslots := modifyLease_eq_setLease (s := (s.cleared w l).dequeue w) ht.lease Lease.grantedRecord
    exact congrArg (fun t => t.slot v) hslots
  case hq =>
    refine List.filter_congr fun u _ => ?_
    by_cases hu : u = w <;> simp [hu]

theorem victims_eq (s : State) (set : Word) : s.victims set =
    (List.finRange 24).filter fun v => decide (∃ c, inSet set c = true ∧ (s.channel c).state.link = some v) := by
  refine List.filter_congr fun v _ => ?_
  rw [Bool.eq_iff_iff, decide_eq_true_iff]
  simp

/-- Settles O48: the fuel-free recursion of the pass, and the grant as the update that R51 describes. -/
theorem passGrantsInOrder : Obligations.PassGrantsInOrder := by
  intro s own h
  refine ⟨fun hs => passFrom_of_settled hs own _ _, fun front w back hq hg hn => pass_eq_grant_pass h hq hg hn own,
    fun ahead w l hl hw hg => ?_⟩
  intro victims s1 l' s2
  have hs1 : s1 = s.cleared w l := congrArg (fun vs => vs.foldl (State.preempt w l.set) s) (victims_eq s l.set).symm
  have hs2 : s2 = (s.cleared w l).reserveSet w l.set := by
    have he := reserveSet_eq h hl hw hg
    rw [← hs1] at he ⊢
    exact he.symm
  have hr := reserveSet_reservedTo h hl hw hg
  rw [← hs2] at hr
  rw [grant_eq hl, ← hs2]
  unfold State.holdUnlessBreak
  cases hb : s2.anyBreak l.set with
  | true => rw [if_pos rfl, if_pos ((anyBreak_iff s2 l.set).1 hb)]
  | false =>
    have hnb : ¬∃ c, inSet l.set c = true ∧ (s2.channel c).state.isBreak = true := fun hx => by
      rw [(anyBreak_iff s2 l.set).2 hx] at hb; cases hb
    rw [if_neg (by decide), if_neg hnb]
    exact holdLease_of_reservedTo hr hb own

end Sys2Proof.Machine
end

section
/-! PROOFS. Single rows: the tables of the channel stage, device reset, the settle timers, and the timed rows (R3 to R5,
R10 to R16, R89 to R98, R159, R160). -/

namespace Sys2Proof.Machine

/-! ### The tables of the channel stage -/

/-- Settles O46: each function of the channel stage on each channel state. -/
theorem channelTables : Obligations.ChannelTables := by
  refine ⟨fun s c => ?_, fun ch v w level remaining ms => ⟨fun hx hb => ?_, fun hx hb => ?_, fun hx => ?_, fun hx => ?_,
    fun hx => ?_, fun hx => ?_⟩⟩
  · unfold State.drv Channel.output
    cases (s.channel c).state <;> rfl
  · simp [Channel.leave, Channel.handOver, hx, hb]
  · simp [Channel.leave, Channel.handOver, hx, hb]
  · simp [Channel.leave, Channel.handOver, hx]
  · simp [Channel.leave, Channel.handOver, hx]
  · simp [Channel.leave, Channel.handOver, hx]
  · simp [Channel.leave, hx]

/-! ### Device reset -/

/-- While device reset is in progress every DRV line is low and every NOTIFY line released (R4, R143, R159). -/
theorem lines_of_active {t : State} (h : t.resetControl.active = true) :
    (∀ c, t.drv c = false) ∧ ∀ g, t.notifyLow g = false := by
  simp [State.drv, State.notifyLow, h]

/-- Settles O44: by the cause, and for the RESET line by the length of its pulse. -/
theorem deviceResetBegins : Obligations.DeviceResetBegins := by
  intro cause s
  cases cause with
  | powerOn high => exact ⟨_, rfl, rfl, lines_of_active rfl⟩
  | resetLine ns =>
    refine ⟨fun hn => ?_, fun hn => ⟨_, ?_, rfl, lines_of_active rfl⟩⟩
    · exact if_neg (Nat.not_le.2 hn)
    · exact if_pos hn

/-- Settles O45: outside device reset, before 5 ms of supply and at 5 ms. -/
theorem deviceResetCompletes : Obligations.DeviceResetCompletes := by
  intro s
  refine ⟨fun ha => if_pos ha, fun ha hn => ?_, fun ha hn => ⟨s.completeReset, ?_, fun c => completeReset_channel s c,
    fun v => bank_get _ v, rfl, fun h => (bank_get _ h).trans ?_, fun p => bank_get _ p, rfl, rfl, rfl, rfl, rfl, rfl⟩⟩
  · have hne : ¬s.resetControl.active = false := by simp [ha]
    exact (if_neg hne).trans (if_neg (Nat.not_le.2 hn))
  · have hne : ¬s.resetControl.active = false := by simp [ha]
    exact (if_neg hne).trans (if_pos hn)
  · simp [HostRecord.reset, Config.fullMask, Config.resetLead, beq_eq_decide]

/-! ### Events that leave the output levels -/

theorem event_of_fixed {f : State → State} {s : State} (h : f s = s) : event f s = s := by
  unfold event
  split
  · rfl
  · rw [h, syncOutputs_self]

/-- An event that leaves every output level as it was leads to what its work leads to. -/
theorem event_of_output {f : State → State} {s : State} (hr : s.resetControl.active = false)
    (h : ∀ c, ((f s).channel c).output = (s.channel c).output) : event f s = f s := by
  rw [event_of_running hr, syncOutputs_of_output h]

/-- Settles O37: a settle timer has no part in an output level. -/
theorem settleTimersTick : Obligations.SettleTimersTick := by
  intro s hr
  refine congrArg Host.Outcome.next (event_of_output hr fun c => ?_)
  rw [State.settleTick, mapChannels_channel]
  rfl

/-! ### Timed rows that are not due -/

theorem termStepDue_iff (l : Lease) :
    l.termStepDue = true ↔ (l.state = .held ∨ l.state = .suspended) ∧ 10 ≤ l.stepMs := by
  unfold Lease.termStepDue
  rw [Bool.and_eq_true, decide_eq_true_iff]
  cases l.state <;> simp [LeaseState.runsTerm, Config.msPerStep]

theorem waitStepDue_iff (l : Lease) : l.waitStepDue = true ↔ l.state = .waiting ∧ 10 ≤ l.stepMs := by
  rw [Lease.waitStepDue, Bool.and_eq_true, decide_eq_true_iff, beq_iff_eq]
  exact Iff.rfl

theorem termStep_not_due {s : State} {v : SlotNo} (h : ∀ l, s.lease? v = some l → l.termStepDue = false) :
    s.termStep v = s ∧ s.expiryEvent v = s := by
  cases hl : s.lease? v with
  | none => simp [State.termStep, State.expiryEvent, hl]
  | some l => simp [State.termStep, State.expiryEvent, hl, h l hl]

theorem waitStep_not_due {s : State} {v : SlotNo} (h : ∀ l, s.lease? v = some l → l.waitStepDue = false) :
    s.waitStep v = s ∧ s.timeoutEvent v = s := by
  cases hl : s.lease? v with
  | none => simp [State.waitStep, State.timeoutEvent, hl]
  | some l => simp [State.waitStep, State.timeoutEvent, hl, h l hl]

theorem expiryEvent_not_last {s : State} {v : SlotNo} (h : ∀ l, s.lease? v = some l → 1 < l.remaining) :
    s.expiryEvent v = s := by
  cases hl : s.lease? v with
  | none => simp [State.expiryEvent, hl]
  | some l => simp [State.expiryEvent, hl, Nat.not_le.2 (h l hl)]

theorem timeoutEvent_not_last {s : State} {v : SlotNo} (h : ∀ l, s.lease? v = some l → 1 < l.waitRemaining) :
    s.timeoutEvent v = s := by
  cases hl : s.lease? v with
  | none => simp [State.timeoutEvent, hl]
  | some l => simp [State.timeoutEvent, hl, Nat.not_le.2 (h l hl)]

theorem breakCountdown_not_due {s : State} {c : ChannelNo}
    (h : ∀ link remaining ms, (s.channel c).state = .brk link remaining ms → ms < 2) : s.breakCountdown c = s := by
  cases hx : (s.channel c).state with
  | brk link remaining ms => simp [State.breakCountdown, hx, Config.msPerBreakUnit, Nat.not_le.2 (h _ _ _ hx)]
  | _ => simp [State.breakCountdown, hx]

/-- A break end row is not taken before the last unit of a break is complete. -/
theorem breakEnd_not_due {s : State} {c : ChannelNo}
    (h : ∀ link remaining ms, (s.channel c).state = .brk link remaining ms → ¬(2 ≤ ms ∧ remaining ≤ 1)) :
    s.breakEndReserved c = s ∧ s.breakEndUnreserved c = s := by
  cases hx : (s.channel c).state with
  | brk link remaining ms =>
    have hn := h _ _ _ hx
    cases link with
    | none =>
      exact ⟨by simp only [State.breakEndReserved, hx], by simp only [State.breakEndUnreserved, hx]; exact if_neg hn⟩
    | some v =>
      exact ⟨by simp only [State.breakEndReserved, hx]; exact if_neg hn, by simp only [State.breakEndUnreserved, hx]⟩
  | _ => simp [State.breakEndReserved, State.breakEndUnreserved, hx]

theorem breakEndReserved_unlinked {s : State} {c : ChannelNo} (h : (s.channel c).state.link = none) :
    s.breakEndReserved c = s := by
  cases hx : (s.channel c).state with
  | brk link remaining ms =>
    rw [hx] at h
    cases h
    simp [State.breakEndReserved, hx]
  | _ => simp [State.breakEndReserved, hx]

theorem breakEndUnreserved_linked {s : State} {c : ChannelNo} (h : (s.channel c).state.link ≠ none) :
    s.breakEndUnreserved c = s := by
  cases hx : (s.channel c).state with
  | brk link remaining ms =>
    cases link with
    | none => exact absurd (by rw [hx]; rfl) h
    | some v => simp [State.breakEndUnreserved, hx]
  | _ => simp [State.breakEndUnreserved, hx]

/-- Settles O36: in each case the work of the row is none. -/
theorem timedRowsNotDue : Obligations.TimedRowsNotDue := by
  intro s v c
  have fixed {f : State → State} (h : f s = s) : Host.Outcome.next (event f s) = (.next s : Host.Outcome State Fault Refusal) :=
    congrArg _ (event_of_fixed h)
  refine ⟨fun h => ?_, fun h => fixed (expiryEvent_not_last h), fun h => ?_, fun h => fixed (timeoutEvent_not_last h),
    fun h => ?_, fun h => ?_, fun h => fixed (breakEndReserved_unlinked h), fun h => fixed (breakEndUnreserved_linked h)⟩
  · obtain ⟨ht, he⟩ := termStep_not_due (s := s) (v := v) fun l hl => by
      rw [← Bool.not_eq_true, termStepDue_iff]
      rintro ⟨hx, hms⟩
      rcases h l hl with hy | hy | hy
      · simp [hy] at hx
      · simp [hy] at hx
      · omega
    exact ⟨fixed ht, fixed he⟩
  · obtain ⟨hw, ht⟩ := waitStep_not_due (s := s) (v := v) fun l hl => by
      rw [← Bool.not_eq_true, waitStepDue_iff]
      rintro ⟨hx, hms⟩
      rcases h l hl with hy | hy
      · exact hy hx
      · omega
    exact ⟨fixed hw, fixed ht⟩
  · obtain ⟨hr, hu⟩ := breakEnd_not_due (s := s) (c := c) fun link remaining ms hx hn => by have := h _ _ _ hx; omega
    exact ⟨fixed (breakCountdown_not_due h), fixed hr, fixed hu⟩
  · obtain ⟨hr, hu⟩ := breakEnd_not_due (s := s) (c := c) fun link remaining ms hx hn => by have := h _ _ _ hx; omega
    exact ⟨fixed hr, fixed hu⟩

/-! ### Timers that count down -/

@[simp] theorem setLease_channel (s : State) (v : SlotNo) (l : Lease) (c : ChannelNo) :
    (s.setLease v l).channel c = s.channel c := rfl

theorem setLease_handle (s : State) (v u : SlotNo) (l : Lease) : (s.setLease v l).handle u = s.handle u := by
  simp [State.handle]

/-- A step of the term timer that is not the last: one less remains, and the warning check follows (R92, R95). -/
theorem termStep_counts {s : State} {v : SlotNo} {l : Lease} (hl : s.lease? v = some l) (hd : l.termStepDue = true)
    (hr : 2 ≤ l.remaining) :
    s.termStep v = (if s.warns l.holder (l.remaining - 1) ∧ l.warned = false then
        s.notify l.holder (.expiring (s.handle v) l.tag (l.remaining - 1)) else s).setLease v
      { l with remaining := l.remaining - 1,
               warned := l.warned || decide (s.warns l.holder (l.remaining - 1) ∧ l.warned = false), stepMs := 0 } := by
  have hstep : s.termStep v = (s.setLease v { l with remaining := l.remaining - 1, stepMs := 0 }).warningCheck v := by
    simp only [State.termStep, hl, hd, if_true]
    rw [if_neg (by omega), modifyLease_eq_setLease hl]
  rw [hstep, warningCheck_eq (setLease_lease_self s v _), setLease_setLease, setLease_handle]
  by_cases hw : s.warns l.holder (l.remaining - 1) ∧ l.warned = false
  · rw [if_pos hw, decide_eq_true hw, Bool.or_true]
    exact if_pos hw
  · rw [if_neg hw, decide_eq_false hw, Bool.or_false]
    exact if_neg hw

theorem waitStep_counts {s : State} {v : SlotNo} {l : Lease} (hl : s.lease? v = some l) (hd : l.waitStepDue = true)
    (hr : 2 ≤ l.waitRemaining) :
    s.waitStep v = s.setLease v { l with waitRemaining := l.waitRemaining - 1, stepMs := 0 } := by
  simp only [State.waitStep, hl, hd, if_true]
  rw [if_neg (by omega), modifyLease_eq_setLease hl]

theorem breakCountdown_counts {s : State} {c : ChannelNo} {link : Option SlotNo} {remaining ms : Nat}
    (hx : (s.channel c).state = .brk link remaining ms) (hm : 2 ≤ ms) (hr : 2 ≤ remaining) :
    s.breakCountdown c = s.modifyChannel c fun ch => { ch with state := .brk link (remaining - 1) 0 } := by
  simp only [State.breakCountdown, hx, Config.msPerBreakUnit, hm, if_true]
  rw [if_neg (by omega)]

/-- A channel whose break goes on keeps its output level, the fallback (R3). -/
theorem output_of_brk {ch : Channel} {link link' : Option SlotNo} {r r' m m' : Nat} (hx : ch.state = .brk link r m) :
    ({ ch with state := .brk link' r' m' } : Channel).output = ch.output := by
  simp [Channel.output, hx]

/-- Settles O32: the three kinds of timer, none of which moves an output level. -/
theorem timersCountDown : Obligations.TimersCountDown := by
  intro s ha
  refine ⟨fun v l hl hx hms hr => ?_, fun v l hl hx hms hr => ?_, fun c link remaining ms hx hm hr => ?_⟩
  · have he := termStep_counts hl ((termStepDue_iff l).2 ⟨hx, hms⟩) hr
    have hout : ∀ c, ((s.termStep v).channel c).output = (s.channel c).output := fun c => by
      rw [he, setLease_channel]
      split <;> rfl
    exact congrArg Host.Outcome.next ((event_of_output ha hout).trans he)
  · have he := waitStep_counts hl ((waitStepDue_iff l).2 ⟨hx, hms⟩) hr
    exact congrArg Host.Outcome.next ((event_of_output ha fun c => by rw [he, setLease_channel]).trans he)
  · have he := breakCountdown_counts hx hm hr
    refine congrArg Host.Outcome.next ((event_of_output ha fun d => ?_).trans he)
    rw [he, modifyChannel_channel]
    split
    · rename_i hd
      rw [hd]
      exact output_of_brk hx
    · rfl

/-! ### The end of a break -/

theorem breakCountdown_last {s : State} {c : ChannelNo} {link : Option SlotNo} {ms : Nat}
    (hx : (s.channel c).state = .brk link 1 ms) (hm : 2 ≤ ms) : s.breakCountdown c = s.endBreak c link := by
  simp [State.breakCountdown, hx, Config.msPerBreakUnit, hm]

theorem breakEndReserved_last {s : State} {c : ChannelNo} {v : SlotNo} {ms : Nat}
    (hx : (s.channel c).state = .brk (some v) 1 ms) (hm : 2 ≤ ms) : s.breakEndReserved c = s.endBreak c (some v) := by
  simp [State.breakEndReserved, hx, Config.msPerBreakUnit, hm]

theorem breakEndUnreserved_last {s : State} {c : ChannelNo} {ms : Nat}
    (hx : (s.channel c).state = .brk none 1 ms) (hm : 2 ≤ ms) : s.breakEndUnreserved c = s.endBreak c none := by
  simp [State.breakEndUnreserved, hx, Config.msPerBreakUnit, hm]

theorem modifyChannel_congr {s : State} {c : ChannelNo} {f g : Channel → Channel} (h : f (s.channel c) = g (s.channel c)) :
    s.modifyChannel c f = s.modifyChannel c g := by
  apply state_ext <;> intros <;> try rfl
  rename_i d
  rw [modifyChannel_channel, modifyChannel_channel]
  split
  · rename_i hd
    rw [hd, h]
  · rfl

/-- Settles O35: both rows of the last unit end the break, and then the pass runs. -/
theorem unreservedBreakEnds : Obligations.UnreservedBreakEnds := by
  intro c ms i s ha hi hx hm
  have hend : s.endBreak c none = (s.modifyChannel c fun ch => { ch with state := .free }).pass none :=
    congrArg (State.pass · none) (modifyChannel_congr (by simp [Channel.endBreak, hx]))
  rcases hi with rfl | rfl
  · rw [← hend, ← breakCountdown_last hx hm]
    exact congrArg Host.Outcome.next (event_of_running ha _)
  · rw [← hend, ← breakEndUnreserved_last hx hm]
    exact congrArg Host.Outcome.next (event_of_running ha _)

/-- A channel that an event takes to the state `x`, and to no other record, at the end of that event (R5, R120). -/
theorem syncOutputs_channel_goes {s t : State} {c : ChannelNo} {x : ChannelState}
    (h : t.channel c = { s.channel c with state := x }) : (syncOutputs s t).channel c = (s.channel c).goes x := by
  rw [syncOutputs_channel, h]
  unfold Channel.goes
  split <;> rfl

theorem syncOutputs_channel_same {s t : State} {c : ChannelNo} (h : t.channel c = s.channel c) :
    (syncOutputs s t).channel c = s.channel c := by
  rw [syncOutputs_channel, h, if_pos rfl]

theorem sameRest_syncOutputs {s t : State} (h : s.sameRest t) : s.sameRest (syncOutputs s t) := h

theorem heldBy_sameRest (s : State) (own : Option SlotNo) (v : SlotNo) (l : Lease) : s.sameRest (s.heldBy own v l) := by
  unfold State.sameRest State.heldBy
  dsimp only
  split <;> split <;> exact ⟨rfl, rfl, rfl, rfl, rfl, rfl⟩

/-- What the hold of `v` notices: GRANTED, and EXPIRING where the term is within the lead (R62, R95). -/
theorem heldBy_hosts (s : State) (v : SlotNo) (l : Lease) : (s.heldBy none v l).hosts =
    (if s.warns l.holder l.term then (s.notify l.holder (.granted (s.handle v) l.tag)).notify l.holder
        (.expiring (s.handle v) l.tag l.term)
      else s.notify l.holder (.granted (s.handle v) l.tag)).hosts := by
  unfold State.heldBy
  rw [if_neg (by simp : ¬none = some v)]
  rfl

/-- The notices of the hold do not depend on the channels. -/
theorem heldBy_modifyChannel_hosts (s : State) (c : ChannelNo) (f : Channel → Channel) (v : SlotNo) (l : Lease) :
    ((s.modifyChannel c f).heldBy none v l).hosts = (s.heldBy none v l).hosts := by
  rw [heldBy_hosts, heldBy_hosts]
  have hwarns : (s.modifyChannel c f).warns l.holder l.term ↔ s.warns l.holder l.term := Iff.rfl
  simp only [hwarns]
  split <;> rfl

/-- Settles O34: after the last unit the set is reserved to the lease, which stays GRANTING or is held. -/
theorem reservedBreakEnds : Obligations.ReservedBreakEnds := by
  intro c v ms l i s ha hi ht hx hm hl
  have hfree : (s.modifyChannel c fun ch => { ch with state := ch.endBreak }) =
      s.modifyChannel c fun ch => { ch with state := .reserved v } :=
    modifyChannel_congr (by simp [Channel.endBreak, hx])
  have hr := endBreak_reservedTo ht hx hl
  rw [hfree] at hr
  have hexec : exec i s = .next (syncOutputs s
      ((s.modifyChannel c fun ch => { ch with state := .reserved v }).holdUnlessBreak none v l.set)) := by
    have hend : s.endBreak c (some v) =
        (s.modifyChannel c fun ch => { ch with state := .reserved v }).holdUnlessBreak none v l.set := by
      simp only [State.endBreak, State.breakEnded, modifyChannel_lease, hl, hfree]
    rw [← hend]
    rcases hi with rfl | rfl
    · rw [← breakCountdown_last hx hm]
      exact congrArg Host.Outcome.next (event_of_running ha _)
    · rw [← breakEndReserved_last hx hm]
      exact congrArg Host.Outcome.next (event_of_running ha _)
  have hch : ∀ {d}, d ≠ c → (s.modifyChannel c fun ch => { ch with state := .reserved v }).channel d = s.channel d :=
    fun hd => modifyChannel_channel_ne s hd _
  refine ⟨fun ⟨d, hdc, hds, hb⟩ => ?_, fun hnone => ?_⟩
  · have hany : (s.modifyChannel c fun ch => { ch with state := .reserved v }).anyBreak l.set = true :=
      (anyBreak_iff _ _).2 ⟨d, hds, by rw [hch hdc]; exact hb⟩
    rw [hexec, State.holdUnlessBreak, if_pos hany]
    refine congrArg Host.Outcome.next (syncOutputs_of_output fun e => ?_)
    rw [modifyChannel_channel]
    split
    · rename_i he
      simp [Channel.output, he, hx]
    · rfl
  · have hany : (s.modifyChannel c fun ch => { ch with state := .reserved v }).anyBreak l.set = false := by
      rw [← Bool.not_eq_true, anyBreak_iff]
      rintro ⟨d, hds, hb⟩
      by_cases hdc : d = c
      · rw [hdc, modifyChannel_channel_self] at hb
        cases hb
      · rw [hch hdc, hnone d hdc hds] at hb
        cases hb
    rw [State.holdUnlessBreak, if_neg (by simp [hany]), holdLease_of_reservedTo hr hany] at hexec
    refine ⟨_, hexec, fun d => ?_, heldBy_slots _ _ _ _, heldBy_waitQueue _ _ _ _,
      (heldBy_modifyChannel_hosts _ _ _ _ _).trans (heldBy_hosts _ _ _), heldBy_ports _ _ _ _,
      sameRest_syncOutputs (heldBy_sameRest _ _ _ _)⟩
    have hd := heldBy_channel (s.modifyChannel c fun ch => { ch with state := .reserved v }) none v l d
    split
    · rename_i hds
      refine syncOutputs_channel_goes (hd.trans ?_)
      rw [if_pos hds, modifyChannel_channel]
      split <;> rfl
    · rename_i hds
      have hdc : d ≠ c := by
        rintro rfl
        exact hds (hr.mem (by rw [modifyChannel_channel_self]; rfl))
      exact syncOutputs_channel_same (hd.trans (by rw [if_neg hds, hch hdc]))

end Sys2Proof.Machine
end

section
/-! PROOFS. The millisecond of the oscillator: what falls due in it, and in which order it is met (R5, R14, R89, R106, R117). -/

namespace Sys2Proof.Machine

/-- Whatever the choices, the events due are met each once. -/
theorem arrange_perm (order : List Nat) (es : List Instr) : (arrange order es).Perm es := by
  induction es generalizing order with
  | nil => simp [arrange]
  | cons e es ih =>
    have hle : order.headD 0 % (es.length + 1) ≤ (arrange order.tail es).length := by
      rw [(ih _).length_eq]
      exact Nat.le_of_lt_succ (Nat.mod_lt _ (Nat.succ_pos _))
    rw [arrange]
    exact (List.perm_insertIdx _ _ hle).trans ((ih _).cons e)

theorem breakDue_iff (ch : Channel) :
    ch.breakDue = true ↔ ∃ link remaining ms, ch.state = .brk link remaining ms ∧ 2 ≤ ms := by
  unfold Channel.breakDue
  cases hx : ch.state with
  | brk link remaining ms =>
    rw [decide_eq_true_iff]
    exact ⟨fun h => ⟨_, _, _, rfl, h⟩, fun ⟨_, _, _, he, h⟩ => by cases he; exact h⟩
  | _ => simp

theorem termStepDue_of_waitStepDue {l : Lease} (h : l.waitStepDue = true) : l.termStepDue = false := by
  rw [← Bool.not_eq_true, termStepDue_iff]
  rintro ⟨hx, -⟩
  simp [((waitStepDue_iff l).1 h).1] at hx

theorem stepDue_iff (s : State) (v : SlotNo) (i : Instr) : s.stepDue v = some i ↔
    (∃ l, i = .termStep v ∧ s.lease? v = some l ∧ l.termStepDue = true) ∨
      ∃ l, i = .waitStep v ∧ s.lease? v = some l ∧ l.waitStepDue = true := by
  unfold State.stepDue
  cases hl : s.lease? v with
  | none => simp
  | some l =>
    have hw := @termStepDue_of_waitStepDue l
    cases ht : l.termStepDue <;> cases hy : l.waitStepDue <;> simp [ht, hy, eq_comm (a := i)] at hw ⊢

theorem assertDue_iff (i : InhibitInput) : i.assertDue = true ↔ i.inEffect = false ∧ i.line = false ∧ 2 ≤ i.timer := by
  rw [InhibitInput.assertDue, Bool.and_eq_true, Bool.and_eq_true, decide_eq_true_iff, Bool.not_eq_true', Bool.not_eq_true',
    and_assoc]
  exact Iff.rfl

theorem releaseDue_iff (i : InhibitInput) : i.releaseDue = true ↔ i.inEffect = true ∧ i.line = true ∧ 20 ≤ i.timer := by
  rw [InhibitInput.releaseDue, Bool.and_eq_true, Bool.and_eq_true, decide_eq_true_iff, and_assoc]
  exact Iff.rfl

theorem mem_due (s : State) (i : Instr) : i ∈ s.due ↔
    i = .sweepVisit s.fb ∨
    (∃ c link remaining ms, i = .breakCountdown c ∧ (s.channel c).state = .brk link remaining ms ∧ 2 ≤ ms) ∨
    (∃ v l, i = .termStep v ∧ s.lease? v = some l ∧ (l.state = .held ∨ l.state = .suspended) ∧ 10 ≤ l.stepMs) ∨
    (∃ v l, i = .waitStep v ∧ s.lease? v = some l ∧ l.state = .waiting ∧ 10 ≤ l.stepMs) ∨
    (i = .assertion ∧ s.inhibit.inEffect = false ∧ s.inhibit.line = false ∧ 2 ≤ s.inhibit.timer) ∨
    (i = .releaseOfInhibit ∧ s.inhibit.inEffect = true ∧ s.inhibit.line = true ∧ 20 ≤ s.inhibit.timer) := by
  have hbreak : i ∈ ((List.finRange 16).filter fun c => (s.channel c).breakDue).map Instr.breakCountdown ↔
      ∃ c link remaining ms, i = .breakCountdown c ∧ (s.channel c).state = .brk link remaining ms ∧ 2 ≤ ms := by
    simp only [List.mem_map, List.mem_filter, List.mem_finRange, true_and, breakDue_iff]
    exact ⟨fun ⟨c, ⟨link, r, ms, h⟩, hi⟩ => ⟨c, link, r, ms, hi.symm, h⟩,
      fun ⟨c, link, r, ms, hi, h⟩ => ⟨c, ⟨link, r, ms, h⟩, hi.symm⟩⟩
  have hstep : i ∈ (List.finRange 24).filterMap s.stepDue ↔
      (∃ v l, i = .termStep v ∧ s.lease? v = some l ∧ (l.state = .held ∨ l.state = .suspended) ∧ 10 ≤ l.stepMs) ∨
      ∃ v l, i = .waitStep v ∧ s.lease? v = some l ∧ l.state = .waiting ∧ 10 ≤ l.stepMs := by
    simp only [List.mem_filterMap, List.mem_finRange, true_and, stepDue_iff, exists_or, termStepDue_iff, waitStepDue_iff]
  have hassert : i ∈ (if s.inhibit.assertDue then [.assertion] else []) ↔ i = .assertion ∧ s.inhibit.assertDue = true := by
    split <;> simp [*]
  have hrelease : i ∈ (if s.inhibit.releaseDue then [.releaseOfInhibit] else []) ↔
      i = .releaseOfInhibit ∧ s.inhibit.releaseDue = true := by
    split <;> simp [*]
  rw [State.due, List.cons_append, List.cons_append, List.cons_append, List.mem_cons, List.mem_append, List.mem_append,
    List.mem_append, hbreak, hstep, hassert, hrelease, assertDue_iff, releaseDue_iff, or_assoc, or_assoc, or_assoc]

/-- The events due differ: by their rows, and within a row by the channel or slot they are of. -/
theorem due_nodup (s : State) : s.due.Nodup := by
  have hbreaks : (((List.finRange 16).filter fun c => (s.channel c).breakDue).map Instr.breakCountdown).Nodup :=
    ((List.nodup_finRange 16).filter _).map fun _ _ h => Instr.breakCountdown.inj h
  have hsteps : ((List.finRange 24).filterMap s.stepDue).Nodup := (List.nodup_finRange 24).filterMap fun v w i hv hw => by
    rcases (stepDue_iff s v i).1 hv with ⟨_, rfl, -⟩ | ⟨_, rfl, -⟩ <;>
      rcases (stepDue_iff s w _).1 hw with ⟨_, h, -⟩ | ⟨_, h, -⟩ <;> cases h <;> rfl
  have hmem : ∀ {i}, i ∈ (List.finRange 24).filterMap s.stepDue → (∃ v, i = .termStep v) ∨ ∃ v, i = .waitStep v :=
      fun {i} hi => by
    obtain ⟨v, -, hv⟩ := List.mem_filterMap.1 hi
    rcases (stepDue_iff s v i).1 hv with ⟨_, h, -⟩ | ⟨_, h, -⟩
    · exact .inl ⟨v, h⟩
    · exact .inr ⟨v, h⟩
  have hassert : ∀ {i}, i ∈ (if s.inhibit.assertDue then [Instr.assertion] else []) → i = .assertion := by
    split <;> simp
  have hrelease : ∀ {i}, i ∈ (if s.inhibit.releaseDue then [Instr.releaseOfInhibit] else []) → i = .releaseOfInhibit := by
    split <;> simp
  rw [State.due, List.nodup_append, List.nodup_append, List.nodup_append, List.nodup_cons]
  refine ⟨⟨⟨⟨by simp, hbreaks⟩, hsteps, ?_⟩, by split <;> simp, ?_⟩, by split <;> simp, ?_⟩
  · rintro i hi _ hj rfl
    rcases hmem hj with ⟨v, rfl⟩ | ⟨v, rfl⟩ <;> simp at hi
  · rintro i hi _ hj rfl
    cases hassert hj
    rcases List.mem_append.1 hi with hi | hi
    · simp at hi
    · simpa using hmem hi
  · rintro i hi _ hj rfl
    cases hrelease hj
    rcases List.mem_append.1 hi with hi | hi
    · rcases List.mem_append.1 hi with hi | hi
      · simp at hi
      · simpa using hmem hi
    · simpa using hassert hi

/-- Settles O2: in device reset the supply's time grows; otherwise the timers advance and the events due are queued. -/
theorem idleMillisecond : Obligations.IdleMillisecond := by
  intro s hp
  have hstep : step s = .next s.idle := by simp only [step, hp]
  refine ⟨s.idle, hstep, fun ha => ?_, fun ha => ?_⟩
  · rw [State.idle, if_pos ha, State.resetMillisecond]
    have hiff : (s.resetControl.line && min (s.resetControl.supplyMs + 1) Config.supplyMs == Config.supplyMs) = true ↔
        s.resetControl.line = true ∧ 4 ≤ s.resetControl.supplyMs := by
      rw [Bool.and_eq_true, beq_iff_eq, Config.supplyMs]
      exact and_congr_right fun _ => by omega
    simp only [hiff]
    rfl
  · have hidle : s.idle = s.millisecond := by rw [State.idle, if_neg (by simp [ha])]
    rw [hidle]
    refine ⟨fun c => (advance_channel s c).trans ?_, fun v => (advance_slot s v).trans ?_, rfl, rfl, rfl, rfl, rfl,
      rfl, ?_, rfl, rfl, _, rfl, ((arrange_perm _ _).nodup_iff).2 (due_nodup _), fun i => ((arrange_perm _ _).mem_iff).trans (mem_due s.advance i)⟩
    · cases (s.channel c).state <;> rfl
    · rfl
    · change (if (s.inhibit.line == s.inhibit.inEffect) = true then min (s.inhibit.timer + 1) s.inhibit.limit else 0) = _
      simp only [beq_iff_eq]
      rfl

end Sys2Proof.Machine
end

section
/-! PROOFS. The commands on the channels: QUERY_CHANNEL, SET_CHANNEL and TABLE_RESET (R18, R156, R157, R161). -/

namespace Sys2Proof.Machine

/-! ### Bytes and their fields -/

theorem byteOf_toNat (b : Byte) : byteOf b.toNat = b := BitVec.ofNat_toNat 8 b

theorem byteOf_of_toNat {b : Byte} {n : Nat} (h : b.toNat = n) : byteOf n = b := by rw [← h, byteOf_toNat]

theorem channelField_of_toNat {b : Byte} {c : ChannelNo} (h : b.toNat = c.val) : channelField b = some c := by
  simp [channelField, h]

theorem channelField_eq_none {b : Byte} (h : 16 ≤ b.toNat) : channelField b = none := dif_neg (Nat.not_lt.2 h)

theorem policyField_policyCode (policy : FaultPolicy) : policyField (policyCode policy) = some policy := by
  cases policy <;> decide

/-- The low three bits of a byte, read as a field and as a mask. -/
theorem lowBits_eq_zero (b : Byte) : b.extractLsb' 0 3 = 0 ↔ b &&& 0x07 = 0 := by
  rw [← BitVec.toNat_inj, ← BitVec.toNat_inj, BitVec.extractLsb'_toNat, BitVec.toNat_and, Nat.shiftRight_zero]
  exact Eq.congr_left (Nat.and_two_pow_sub_one_eq_mod b.toNat 3).symm

theorem flagsByte_eq_sum : ∀ b0 b1 b2 b3 b4 b5 : Bool, flagsByte b0 b1 b2 b3 b4 b5 =
    byteOf ((if b0 then 1 else 0) + (if b1 then 2 else 0) + (if b2 then 4 else 0) + (if b3 then 8 else 0) +
      (if b4 then 16 else 0) + (if b5 then 32 else 0)) := by decide

theorem configFlags_eq_sum (policy : FaultPolicy) : ∀ b7 b6 b5 : Bool,
    BitVec.ofBool b7 ++ BitVec.ofBool b6 ++ BitVec.ofBool b5 ++ policyCode policy ++ (0 : BitVec 3) =
      byteOf ((if b7 then 128 else 0) + (if b6 then 64 else 0) + (if b5 then 32 else 0) + 8 * (policyCode policy).toNat) := by
  cases policy <;> decide

/-- A flags byte is put together again from its fields (R177). -/
theorem configFlags_of_fields {flags : Byte} {policy : FaultPolicy} (hp : flags.extractLsb' 3 2 = policyCode policy)
    (h0 : flags.extractLsb' 0 3 = 0) :
    BitVec.ofBool (flags.getLsbD 7) ++ BitVec.ofBool (flags.getLsbD 6) ++ BitVec.ofBool (flags.getLsbD 5) ++
      policyCode policy ++ (0 : BitVec 3) = flags := by
  rw [← hp, ← h0]
  refine BitVec.eq_of_getLsbD_eq fun i hi => ?_
  interval_cases i <;> simp only [BitVec.getLsbD_append] <;> simp

/-! ### The frame of a command -/

/-- The part with port `p` at the rising edge of a valid frame of `n` clocks, before its command is executed (R168, R171). -/
def State.framed (s : State) (p : HostNo) (n : Nat) : State :=
  (s.modifyPort p (PortRecord.endFrame n)).modifyPort p PortRecord.accept

theorem onFrame_framed {s : State} {p : HostNo} {n payload : Nat} (hl : s.listens p = true)
    (hf : clocksFit payload n = true) (body : State → State) :
    onFrame p n payload body s = syncOutputs s (body (s.framed p n)) :=
  onFrame_fits hl hf body

/-- The answer of the command of a frame to what else the command has done. -/
theorem syncOutputs_framed_answer (s t : State) (p : HostNo) (n : Nat) (seq : Byte) (r : Result) (fields : List Byte) :
    syncOutputs s ((t.framed p n).answer p seq r fields) = (syncOutputs s t).replied p seq r fields := by
  rw [State.framed, begun_answer]
  exact syncOutputs_modifyPort s t p _

theorem pass_framed (s : State) (p : HostNo) (n : Nat) (own : Option SlotNo) :
    (s.framed p n).pass own = (s.pass own).framed p n := by
  rw [State.framed, pass_modifyPort, pass_modifyPort]
  exact rfl

/-! ### QUERY_CHANNEL -/

theorem isDriven_eq (x : ChannelState) : x.commanded.isSome = x.isDriven := by cases x <;> rfl

/-- The level bit of a channel that is DRIVEN is its output level (R3). -/
theorem commanded_eq_output (ch : Channel) : ch.state.commanded.getD false = (ch.state.isDriven && ch.output) := by
  unfold Channel.output
  cases ch.state <;> rfl

/-- Settles O25: each byte of the layout against the byte of the channel. -/
theorem queryChannelReports : Obligations.QueryChannelReports := by
  intro p n seq channel fb s hl hf
  refine ⟨fun hb => congrArg Host.Outcome.next (onFrame_answer (s := s.setFb fb) hl hf fun u _ => ?_),
    fun c hc => congrArg Host.Outcome.next (onFrame_answer (s := s.setFb fb) hl hf fun u hu => ?_)⟩
  · rw [State.queryChannel, channelField_eq_none hb]
    rfl
  · rw [State.queryChannel, channelField_of_toNat hc]
    refine congrArg (u.answer p seq .ok) ?_
    subst hu
    simp only [State.channelFields, List.append_assoc]
    refine congrArg₂ (· ++ ·) ?_ (congrArg₂ (· ++ ·) ?_ ?_)
    · rw [byteOf_of_toNat hc]
      exact rfl
    · change (match (s.channel c).state.link with
        | some v => (s.handle v).bytes
        | none => [0, 0]) = _
      cases (s.channel c).state.link <;> rfl
    · rw [← flagsByte_eq_sum, ← commanded_eq_output, ← isDriven_eq]
      refine congrArg (_ :: _ :: _ :: · :: _) ((configFlags_eq_sum (s.channel c).config.policy _ _ _).trans ?_)
      cases (s.channel c).config.policy <;> rfl

/-! ### TABLE_RESET -/

theorem clear_eq (x : Slot) : x.clear = { gen := if x.lease = none then x.gen else x.gen + 1, lease := none } := by
  obtain ⟨gen, lease⟩ := x
  cases lease <;> rfl

/-- Settles O31: the host without the right is refused; otherwise the table is cleared and the event ends. -/
theorem tableResetFreesTable : Obligations.TableResetFreesTable := by
  intro p n seq s hl hf
  refine ⟨fun hr => congrArg Host.Outcome.next (onFrame_answer hl hf fun u hu => ?_), fun hr => ?_⟩
  · subst hu
    exact if_pos hr
  · have hne : ¬(s.host p).config = false := by simp [hr]
    have hbody : (s.framed p n).tableReset p seq =
        (s.clearTable.framed p n).answer p seq .ok [byteOf ((List.finRange 24).countP fun v => (s.lease? v).isSome)] :=
      if_neg hne
    have hexec := (onFrame_framed hl hf (State.tableReset p seq)).trans (congrArg (syncOutputs s) hbody)
    rw [syncOutputs_framed_answer] at hexec
    refine ⟨_, congrArg Host.Outcome.next hexec, fun c => ?_, fun v => ?_, rfl, fun h => bank_get _ h, rfl, rfl, rfl, rfl, rfl,
      rfl, rfl⟩
    · refine (syncOutputs_channel_goes (clearTable_channel s c)).trans (congrArg (s.channel c).goes ?_)
      unfold Channel.leave
      cases (s.channel c).state <;> rfl
    · exact (clearTable_slot s v).trans (clear_eq _)

/-! ### SET_CHANNEL -/

theorem one_le_toNat {b : Byte} : 1 ≤ b.toNat ↔ b ≠ 0 := by
  rw [Nat.one_le_iff_ne_zero, ne_eq, ne_eq, ← BitVec.toNat_inj]
  exact Iff.rfl

theorem configField_eq_none {flags breakTime settleTime threshold : Byte}
    (h : 250 < breakTime.toNat ∨ settleTime = 0 ∨ threshold = 0 ∨ 15 < threshold.toNat ∨
      flags.extractLsb' 3 2 = 3 ∨ flags &&& 0x07 ≠ 0) : configField flags breakTime settleTime threshold = none := by
  unfold configField
  split
  · rename_i hr
    obtain ⟨h0, hb, hs, ht, ht'⟩ := hr
    rcases h with h | h | h | h | h | h
    · exact absurd hb (Nat.not_le.2 h)
    · exact absurd h (one_le_toNat.1 hs)
    · exact absurd h (one_le_toNat.1 ht)
    · exact absurd ht' (Nat.not_le.2 h)
    · rw [h]; rfl
    · exact absurd ((lowBits_eq_zero flags).1 h0) h
  · rfl

theorem configField_eq_some {flags breakTime settleTime threshold : Byte} {policy : FaultPolicy}
    (h : ¬(250 < breakTime.toNat ∨ settleTime = 0 ∨ threshold = 0 ∨ 15 < threshold.toNat ∨
      flags.extractLsb' 3 2 = 3 ∨ flags &&& 0x07 ≠ 0)) (hp : flags.extractLsb' 3 2 = policyCode policy) :
    configField flags breakTime settleTime threshold = some
      { fallback := flags.getLsbD 7, breakTime := breakTime.toNat, settleTime := settleTime.toNat,
        threshold := threshold.toNat, policy := policy, feedback := flags.getLsbD 6, leasable := flags.getLsbD 5 } := by
  simp only [not_or, Nat.not_lt, not_not] at h
  obtain ⟨hb, hs, ht, ht', -, h0⟩ := h
  unfold configField
  rw [if_pos ⟨(lowBits_eq_zero flags).2 h0, hb, one_le_toNat.2 hs, one_le_toNat.2 ht, ht'⟩, hp, policyField_policyCode]
  rfl

theorem configure_eq (ch : Channel) (k : ChannelConfig) : ch.configure k = { ch with
    config := k
    fault := if k.feedback = false ∨ ch.fault.state = .suspect then FaultRecord.healthy else ch.fault
    state := if k.feedback = false then if ch.state = .lockedOut then .free else ch.state
      else if ch.fault.state = .faulted ∧ k.policy = .latchOff then .lockedOut else ch.state } := by
  unfold Channel.configure
  cases hk : k.feedback <;> cases hx : ch.fault.state <;> simp

/-- The part after the configuration `k` of channel `c` is written, with the pass of R157 where it has made the channel
grantable. -/
def State.configured (s : State) (c : ChannelNo) (k : ChannelConfig) : State :=
  if (s.channel c).available = false ∧ ((s.modifyChannel c (Channel.configure k)).channel c).available = true then
    (s.modifyChannel c (Channel.configure k)).pass none
  else s.modifyChannel c (Channel.configure k)

theorem waitedFor_iff (s : State) (c : ChannelNo) :
    s.waitedFor c = true ↔ ∃ v, ∃ l ∈ s.lease? v, l.state = .waiting ∧ inSet l.set c = true := by
  unfold State.waitedFor
  rw [List.any_eq_true]
  refine exists_congr fun v => ?_
  cases hl : s.lease? v <;> simp

theorem configured_framed (s : State) (p : HostNo) (n : Nat) (c : ChannelNo) (k : ChannelConfig) :
    (s.framed p n).configured c k = (s.configured c k).framed p n := by
  have hm : (s.framed p n).modifyChannel c (Channel.configure k) = (s.modifyChannel c (Channel.configure k)).framed p n := rfl
  unfold State.configured
  rw [hm, pass_framed]
  exact (apply_ite (State.framed · p n) _ _ _).symm

theorem configured_eq (s : State) (c : ChannelNo) {k : ChannelConfig} {ch : Channel} (h : (s.channel c).configure k = ch) :
    s.configured c k = if (s.channel c).available = false ∧ ch.available = true then
      (s.modifyChannel c fun _ => ch).pass none else s.modifyChannel c fun _ => ch := by
  unfold State.configured
  rw [modifyChannel_channel_self, h, modifyChannel_congr (g := fun _ => ch) h]

/-- SET_CHANNEL by a host with the CONFIG right, with fields in their ranges (R156, R157). -/
theorem setChannel_of_fields {s : State} {p : HostNo} {seq channel flags breakTime settleTime threshold : Byte}
    {c : ChannelNo} {k : ChannelConfig} (hr : (s.host p).config = true) (hc : channelField channel = some c)
    (hk : configField flags breakTime settleTime threshold = some k) :
    s.setChannel p seq channel flags breakTime settleTime threshold =
      if (s.channel c).state ≠ .free ∧ (s.channel c).state ≠ .lockedOut then s.refuse p seq .busy
      else if k.leasable = false ∧ s.waitedFor c = true then s.refuse p seq .busy
      else (s.configured c k).answer p seq .ok ([byteOf c.val, ((s.configured c k).channel c).state.code] ++ configBytes k) := by
  unfold State.setChannel
  rw [if_neg (by simp [hr]), hc, hk]
  exact rfl

/-- Settles O29: by the checks of R156, and then the write with its pass. -/
theorem setChannelWritesConfiguration : Obligations.SetChannelWritesConfiguration := by
  intro p n seq channel flags breakTime settleTime threshold s hl hf
  have refused {r : Result}
      (hbody : (s.framed p n).setChannel p seq channel flags breakTime settleTime threshold = (s.framed p n).refuse p seq r) :
      exec (.setChannel p n seq channel flags breakTime settleTime threshold) s = .next (s.replied p seq r []) :=
    congrArg Host.Outcome.next (onFrame_answer hl hf fun u hu => by subst hu; exact hbody)
  refine ⟨fun hr => refused (if_pos hr), fun hr hbad => refused ?_, fun c policy hr hbad hc hp => ?_⟩
  · unfold State.setChannel
    rw [if_neg (by simp [State.framed, hr])]
    rcases hbad with h | h
    · rw [channelField_eq_none h]
    · rw [configField_eq_none h]
      cases channelField channel <;> rfl
  · intro ch k ch' s1 w
    have hk : configField flags breakTime settleTime threshold = some k := configField_eq_some (fun h => hbad (.inr h)) hp
    have hset := setChannel_of_fields (s := s.framed p n) (seq := seq) hr (channelField_of_toNat hc) hk
    have hw : s.configured c k = w := configured_eq s c (configure_eq ch k)
    have hbytes : configBytes k = [flags, breakTime, settleTime, threshold] := by
      have h0 : flags.extractLsb' 0 3 = 0 := 
        (lowBits_eq_zero flags).2 (not_not.1 fun h => hbad (by simp only [h, not_false_eq_true, or_true, ne_eq]))
      change [_, byteOf breakTime.toNat, byteOf settleTime.toNat, byteOf threshold.toNat] = _
      rw [byteOf_toNat, byteOf_toNat, byteOf_toNat]
      exact congrArg (· :: _) (configFlags_of_fields hp h0)
    by_cases hbusy : (s.channel c).state ≠ .free ∧ (s.channel c).state ≠ .lockedOut
    · rw [if_pos hbusy]
      exact refused (hset.trans (if_pos hbusy))
    by_cases hwait : k.leasable = false ∧ s.waitedFor c = true
    · rw [if_neg hbusy, if_pos (hwait.imp_right (waitedFor_iff s c).1)]
      exact refused (hset.trans ((if_neg hbusy).trans (if_pos hwait)))
    · rw [if_neg hbusy, if_neg (mt (And.imp_right (waitedFor_iff s c).2) hwait)]
      refine congrArg Host.Outcome.next ((onFrame_framed hl hf _).trans ?_)
      rw [hset.trans ((if_neg hbusy).trans (if_neg hwait)), configured_framed, syncOutputs_framed_answer, hw, hbytes,
        byteOf_of_toNat hc]
      exact rfl

end Sys2Proof.Machine
end

section
/-! PROOFS. The commands on the leases: DRIVE and REQUEST (R36, R51, R59, R72 to R75). -/

namespace Sys2Proof.Machine

/-! ### DRIVE -/

theorem slotField_of_toNat {b : Byte} {v : SlotNo} (h : b.toNat = v.val) : slotField b = some v := by
  simp [slotField, h]

theorem named_of_names {s : State} {slot gen : Byte} {v : SlotNo} {l : Lease} (h : s.names slot gen v l) :
    s.named slot gen = some (v, l) := by
  obtain ⟨hslot, hl, hgen⟩ := h
  unfold State.named
  rw [slotField_of_toNat hslot]
  dsimp only
  rw [hl]
  exact if_pos hgen

/-- A handle command by the holder of the lease it names (R24, R66). -/
theorem onOwnLease_of_names {s : State} {p : HostNo} {seq slot gen : Byte} {v : SlotNo} {l : Lease}
    (h : s.names slot gen v l) (hp : l.holder = p) (body : SlotNo → Lease → State) :
    s.onOwnLease p seq slot gen body = body v l := by
  unfold State.onOwnLease
  rw [named_of_names h]
  exact if_pos hp

theorem leaseStateByte_setLease (s : State) (v : SlotNo) (l : Lease) :
    (s.setLease v l).leaseStateByte v = leaseStateCode (some l.state) := by
  rw [State.leaseStateByte, setLease_lease_self]
  exact rfl

/-- No channel is REARM under a lease that is WAITING or GRANTING (R2, R28). -/
theorem rearmSet_of_pending {s : State} (h : s.linkLaw) {v : SlotNo} {l : Lease} (hl : s.lease? v = some l)
    (hx : l.state = .waiting ∨ l.state = .granting) : s.rearmSet v = 0 := by
  have hnone : ∀ c, ((s.channel c).state == .rearm v) = false := fun c => by
    rw [beq_eq_false_iff_ne]
    intro hr
    obtain ⟨m, hm, -, ha⟩ := h c v (by rw [hr]; rfl)
    obtain rfl : l = m := Option.some_inj.1 (hl.symm.trans hm)
    rw [hr] at ha
    rcases hx with hx | hx <;> rw [hx] at ha <;> cases ha
  unfold State.rearmSet State.channelsThat
  simp only [hnone]
  decide

/-- The re-arm set after the channels of `mask` are driven under the lease. -/
theorem rearmSet_of_driven {s t : State} {mask levels : Word} {v : SlotNo}
    (h : ∀ c, t.channel c = if inSet mask c then { s.channel c with state := .driven v (levelOf levels c) } else s.channel c) :
    t.rearmSet v = setOf fun c => (s.channel c).state == .rearm v && !inSet mask c := by
  unfold State.rearmSet State.channelsThat
  refine congrArg setOf (funext fun c => ?_)
  rw [h c]
  cases inSet mask c with
  | true =>
    have hne : ((.driven v (levelOf levels c) : ChannelState) == .rearm v) = false := beq_eq_false_iff_ne.2 nofun
    exact hne.trans (Bool.and_false _).symm
  | false => exact (Bool.and_true _).symm

/-- DRIVE in its frame, once it has passed its checks and left `t` beside its reply. -/
theorem drive_exec {s t : State} {p : HostNo} {n : Nat} {seq slot gen : Byte} {mask levels : Word} {v : SlotNo} {l : Lease}
    (hl : s.listens p = true) (hf : clocksFit 7 n = true) (hn : s.names slot gen v l) (hp : l.holder = p)
    (hd : (s.framed p n).drive p seq mask levels v l = (t.framed p n).answerDrive p seq v) :
    exec (.drive p n seq slot gen mask levels) s =
      .next ((syncOutputs s t).replied p seq .ok (t.leaseStateByte v :: bytesOfWord (t.rearmSet v))) := by
  have hown := onOwnLease_of_names (s := s.framed p n) (seq := seq) hn hp ((s.framed p n).drive p seq mask levels)
  refine congrArg Host.Outcome.next ((onFrame_framed hl hf _).trans ?_)
  rw [hown, hd]
  exact syncOutputs_framed_answer s t p n seq .ok _

/-- DRIVE on a HELD lease: the mask's channels are driven and the levels recorded (R11, R73). -/
theorem drive_of_held {s : State} {v : SlotNo} {l : Lease} {mask : Word} (hl : s.lease? v = some l) (hx : l.state = .held)
    (hm : subset mask l.set = true) {old : Word} (ho : l.commanded = some old) (p : HostNo) (seq : Byte) (levels : Word) :
    s.drive p seq mask levels v l = ((s.redriven mask levels).setLease v
      { l with commanded := some (mergeLevels old mask levels) }).answerDrive p seq v := by
  have hl' : (s.redriven mask levels).lease? v = some l := hl
  unfold State.drive
  have hold : l.commanded.getD l.initial = old := by rw [ho]; rfl
  rw [if_neg (by simp [hm]), ← hold,
    ← modifyLease_eq_setLease hl' fun l => { l with commanded := some (mergeLevels (l.commanded.getD l.initial) mask levels) }]
  simp only [hx]

/-- DRIVE on a lease that holds no channel yet: the initial levels alone are replaced (R74). -/
theorem drive_of_pending {s : State} {v : SlotNo} {l : Lease} {mask : Word} (hl : s.lease? v = some l)
    (hx : l.state = .waiting ∨ l.state = .granting) (hm : subset mask l.set = true) (p : HostNo) (seq : Byte) (levels : Word) :
    s.drive p seq mask levels v l =
      (s.setLease v { l with initial := mergeLevels l.initial mask levels }).answerDrive p seq v := by
  unfold State.drive
  rw [if_neg (by simp [hm]), ← modifyLease_eq_setLease hl fun l => { l with initial := mergeLevels l.initial mask levels }]
  rcases hx with hx | hx <;> simp only [hx]

/-- Settles O18: by the lease state. -/
theorem driveSetsLevels : Obligations.DriveSetsLevels := by
  intro p n seq slot gen mask levels v l s hl hf ht hn hp hm
  obtain ⟨hslot, hlease, hgen⟩ := hn
  refine ⟨fun old hx ho => ?_, fun hx => ?_⟩
  · have hexec := drive_exec
      (t := (s.redriven mask levels).setLease v { l with commanded := some (mergeLevels old mask levels) })
      (levels := levels) (seq := seq) hl hf ⟨hslot, hlease, hgen⟩ hp
      (drive_of_held (s := s.framed p n) hlease hx hm ho p seq levels)
    have hch : ∀ c, (s.redriven mask levels).channel c =
        if inSet mask c then { s.channel c with state := .driven v (levelOf levels c) } else s.channel c := fun c => by
      rw [mapChannels_channel]
      split
      · rw [redrive_of_held ht hlease hx ((subset_iff _ _).1 hm c ‹_›)]
      · rfl
    refine ⟨_, hexec, fun c => ?_, rfl, rfl, rfl, ?_, rfl, rfl, rfl, rfl, rfl, rfl⟩
    · split
      · exact syncOutputs_channel_goes ((hch c).trans (if_pos ‹_›))
      · exact syncOutputs_channel_same ((hch c).trans (if_neg ‹_›))
    · rw [rearmSet_of_driven (t := (s.redriven mask levels).setLease v _) hch, leaseStateByte_setLease]
      exact congrArg (fun x => (s.replied p seq .ok (leaseStateCode (some x) :: _)).ports) hx
  · have hexec := drive_exec (t := s.setLease v { l with initial := mergeLevels l.initial mask levels })
      (levels := levels) (seq := seq) hl hf ⟨hslot, hlease, hgen⟩ hp
      (drive_of_pending (s := s.framed p n) hlease hx hm p seq levels)
    have hrearm : (s.setLease v { l with initial := mergeLevels l.initial mask levels }).rearmSet v = 0 :=
      rearmSet_of_pending ht.2.1 hlease hx
    rw [hexec, hrearm, leaseStateByte_setLease,
      syncOutputs_of_output (s := s) (t := s.setLease v { l with initial := mergeLevels l.initial mask levels }) fun _ => rfl]
    rcases hx with hx | hx <;> rw [hx] <;> exact rfl

end Sys2Proof.Machine
end

section
/-! PROOFS. REQUEST without competition: its checks, its entry, and the pass that grants it at once (R30 to R36, R51, R59). -/

namespace Sys2Proof.Machine

/-! ### The checks -/

theorem stepsField_of_le {w : Word} (h : w.toNat ≤ 6000) : stepsField w = some w.toNat := if_pos h

theorem lowestFree_of_isLowestFree {s : State} {v : SlotNo} (h : s.isLowestFree v) : s.lowestFree = some v := by
  refine List.find?_eq_some_iff_getElem.2 ⟨by rw [h.1]; rfl, v.val, by simp, by simp, fun j hj => ?_⟩
  rw [List.getElem_finRange]
  have hne := h.2 ⟨j, by omega⟩ hj
  simpa [Option.isSome_iff_ne_none] using hne

theorem allLeasable_iff (s : State) (set : Word) :
    s.allLeasable set = true ↔ ∀ c, inSet set c = true → (s.channel c).config.leasable = true := by
  simp only [State.allLeasable, List.all_eq_true, List.mem_finRange, true_implies, Bool.or_eq_true, Bool.not_eq_true']
  exact forall_congr' fun c => by cases inSet set c <;> simp

/-- The fields and the part of a REQUEST that passes every check (R30 to R34). -/
theorem requestCheck_eq_none {s : State} {p : HostNo} {set : Word} {comp : Byte} {term maxWait : Word}
    (h : s.requestCheck p set comp term maxWait = none) :
    (term ≠ 0 ∧ term.toNat ≤ 6000 ∧ maxWait.toNat ≤ 6000 ∧ comp &&& 0x07 = 0) ∧
    (set ≠ 0 ∧ ∀ c, inSet set c = true → (s.channel c).config.leasable = true) ∧
    ¬(s.host p).ceiling < (comp.extractLsb' 5 3).toFin ∧ ¬(s.host p).quota ≤ s.liveCount p := by
  unfold State.requestCheck at h
  split at h
  · cases h
  rename_i h1
  split at h
  · cases h
  rename_i h2
  split at h
  · cases h
  rename_i h3
  split at h
  · cases h
  rename_i h4
  simp only [not_or, not_lt, not_not, not_exists, not_and, Bool.not_eq_false] at h1 h2
  exact ⟨h1, h2, h3, h4⟩

/-- A REQUEST that passes every check enters the lowest FREE slot (R36). -/
theorem request_of_check {s : State} {p : HostNo} {set : Word} {comp : Byte} {term maxWait : Word} {v : SlotNo}
    (h : s.requestCheck p set comp term maxWait = none) (hv : s.isLowestFree v) (seq : Byte) (levels tag : Word) :
    s.request p seq set levels comp term maxWait tag =
      (s.enterRequest v (requestRecord p set levels comp term maxWait tag)).requestOutcome p seq v (s.handle v) := by
  obtain ⟨⟨hterm, hterm', hwait, hcomp⟩, ⟨hset, hleasable⟩, hceiling, hquota⟩ := requestCheck_eq_none h
  have hfield : competitionField comp = some ((comp.extractLsb' 5 3).toFin, comp.getLsbD 4, comp.getLsbD 3) :=
    if_pos ((lowBits_eq_zero comp).2 hcomp)
  have hterm0 : ¬term.toNat = 0 := fun h0 => hterm (BitVec.eq_of_toNat_eq h0)
  unfold State.request
  rw [hfield, stepsField_of_le hterm', stepsField_of_le hwait, lowestFree_of_isLowestFree hv]
  dsimp only
  rw [if_neg hterm0, if_neg (not_or.2 ⟨hset, by rw [(allLeasable_iff s set).2 hleasable]; decide⟩), if_neg hceiling,
    if_neg hquota]
  exact rfl

/-! ### The entry and its pass -/

/-- The part with the lease `l` in slot `v` and its set reserved to it, when nothing else waits (R36, R51). -/
def State.entered (s : State) (v : SlotNo) (l : Lease) : State :=
  ((s.setLease v l).setQueue [v]).reserveSet v l.set

section entered
variable {s : State} {v : SlotNo} {l : Lease}

theorem entered_channel (c : ChannelNo) : (s.entered v l).channel c =
    if inSet l.set c then { s.channel c with state := (s.channel c).reserve v } else s.channel c :=
  reserveSet_channel _ v l.set c

theorem entered_lease : (s.entered v l).lease? v = some l.grantedRecord := by
  have h := reserveSet_lease ((s.setLease v l).setQueue [v]) v v l.set
  rw [if_pos rfl] at h
  exact h.trans (congrArg _ (setLease_lease_self s v l))

theorem entered_slots : (s.entered v l).slots = (s.setLease v l.grantedRecord).slots := by
  have hl : (((s.setLease v l).setQueue [v]).dequeue v).lease? v = some l := setLease_lease_self s v l
  have h := congrArg State.slots (modifyLease_eq_setLease hl Lease.grantedRecord)
  have h2 := congrArg State.slots (setLease_setLease s v l l.grantedRecord)
  exact h.trans h2

theorem entered_waitQueue : (s.entered v l).waitQueue = [] := by
  change [v].filter (· != v) = []
  simp

theorem entered_grantable
    (h : ∀ c, inSet l.set c = true → (s.channel c).available = true ∧ (s.channel c).state.link = none) :
    ((s.setLease v l).setQueue [v]).grantable [] v = true := by
  have hl : ((s.setLease v l).setQueue [v]).lease? v = some l := setLease_lease_self s v l
  unfold State.grantable
  rw [hl]
  dsimp only
  rw [Bool.and_eq_true, List.all_eq_true]
  refine ⟨fun c _ => ?_, rfl⟩
  cases hc : inSet l.set c with
  | false => rfl
  | true =>
    obtain ⟨ha, hlink⟩ := h c hc
    have hpass : ((s.setLease v l).setQueue [v]).channelPasses l.priority c = ((s.channel c).available &&
        match (s.channel c).state.link with
        | none => true
        | some u => ((s.setLease v l).setQueue [v]).yields u l.priority) := rfl
    rw [hpass, ha, hlink]
    exact rfl

/-- The pass of a REQUEST that meets no other entry and no link on its set grants it and ends (R50, R51). -/
theorem enterRequest_eq (hq : s.waitQueue = [])
    (h : ∀ c, inSet l.set c = true → (s.channel c).available = true ∧ (s.channel c).state.link = none)
    (hend : ((s.entered v l).holdUnlessBreak (some v) v l.set).waitQueue = []) :
    s.enterRequest v l = (s.entered v l).holdUnlessBreak (some v) v l.set := by
  have hl : ((s.setLease v l).setQueue [v]).lease? v = some l := setLease_lease_self s v l
  have henter : (s.modifySlot v fun x => { x with lease := some l }).enqueueBack v l.priority =
      (s.setLease v l).setQueue [v] := by
    unfold State.enqueueBack
    rw [modifySlot_waitQueue, hq]
    exact rfl
  have hvictims : ((s.setLease v l).setQueue [v]).victims l.set = [] := by
    rw [List.eq_nil_iff_forall_not_mem]
    intro u hu
    obtain ⟨c, hc, hlink⟩ := mem_victims.1 hu
    have hnone : (s.channel c).state.link = none := (h c hc).2
    cases hnone.symm.trans hlink
  have hgrant : ((s.setLease v l).setQueue [v]).grant (some v) v = (s.entered v l).holdUnlessBreak (some v) v l.set := by
    rw [grant_eq hl, State.cleared, hvictims]
    exact rfl
  have hfirst : ((s.setLease v l).setQueue [v]).waitQueue[0]? = some v := rfl
  unfold State.enterRequest
  rw [henter]
  refine (passFrom_grant hfirst (entered_grantable h) (some v) 24).trans ?_
  rw [hgrant]
  exact passFrom_past (by rw [hend]; rfl) _ _

/-- With a channel of the set in BREAK the lease stays GRANTING (R51, R63). -/
theorem enterRequest_of_break (hq : s.waitQueue = [])
    (h : ∀ c, inSet l.set c = true → (s.channel c).available = true ∧ (s.channel c).state.link = none)
    (hb : (s.entered v l).anyBreak l.set = true) : s.enterRequest v l = s.entered v l := by
  have hhold : (s.entered v l).holdUnlessBreak (some v) v l.set = s.entered v l := if_pos hb
  rw [enterRequest_eq hq h (by rw [hhold, entered_waitQueue]), hhold]

/-- With every channel of the set FREE the lease is held in its own pass (R51, R61, R62). -/
theorem enterRequest_of_free (hq : s.waitQueue = [])
    (h : ∀ c, inSet l.set c = true → (s.channel c).available = true ∧ (s.channel c).state = .free) :
    s.enterRequest v l = (s.entered v l).heldBy (some v) v l.grantedRecord := by
  have hreserved : ∀ c, inSet l.set c = true → ((s.entered v l).channel c).state = .reserved v := fun c hc => by
    rw [entered_channel, if_pos hc]
    simp only [Channel.reserve, (h c hc).2]
  have hb : (s.entered v l).anyBreak l.set = false := by
    rw [← Bool.not_eq_true, anyBreak_iff]
    rintro ⟨c, hc, hx⟩
    rw [hreserved c hc] at hx
    cases hx
  have hhold : (s.entered v l).holdUnlessBreak (some v) v l.set = (s.entered v l).heldBy (some v) v l.grantedRecord := by
    unfold State.holdUnlessBreak
    rw [if_neg (by simp [hb])]
    exact holdLease_eq entered_lease _ fun c hc => ⟨v, hreserved c hc⟩
  rw [enterRequest_eq hq (fun c hc => ⟨(h c hc).1, by rw [(h c hc).2]; rfl⟩)
    (by rw [hhold, heldBy_waitQueue, entered_waitQueue]), hhold]

end entered

/-! ### The whole command -/

theorem enterRequest_framed (s : State) (p : HostNo) (n : Nat) (v : SlotNo) (l : Lease) :
    (s.framed p n).enterRequest v l = (s.enterRequest v l).framed p n :=
  pass_framed ((s.modifySlot v fun x => { x with lease := some l }).enqueueBack v l.priority) p n (some v)

/-- The outcome of a REQUEST whose lease is not WAITING after its pass (R59). -/
theorem requestOutcome_of_granted {s : State} {v : SlotNo} {l : Lease} (hl : s.lease? v = some l) (hw : l.state ≠ .waiting)
    (p : HostNo) (seq : Byte) (h : Handle) :
    s.requestOutcome p seq v h =
      s.answer p seq (if l.state = .granting then .granting else .granted) (h.bytes ++ [0]) := by
  unfold State.requestOutcome
  rw [hl]
  cases hx : l.state with
  | waiting => exact absurd hx hw
  | _ => simp only [hx]; rfl

/-- A REQUEST in its frame, when its pass has ended in `t` with its lease granted. -/
theorem request_exec {s t : State} {p : HostNo} {n : Nat} {seq : Byte} {set levels : Word} {comp : Byte}
    {term maxWait tag : Word} {v : SlotNo} {l : Lease} (hl : s.listens p = true) (hf : clocksFit 12 n = true)
    (hc : s.requestCheck p set comp term maxWait = none) (hv : s.isLowestFree v)
    (ht : s.enterRequest v (requestRecord p set levels comp term maxWait tag) = t) (hlease : t.lease? v = some l)
    (hw : l.state ≠ .waiting) :
    exec (.request p n seq set levels comp term maxWait tag) s = .next ((syncOutputs s t).replied p seq
      (if l.state = .granting then .granting else .granted) [byteOf v.val, (s.slot v).gen, 0]) := by
  have hlease' : (t.framed p n).lease? v = some l := hlease
  refine congrArg Host.Outcome.next ((onFrame_framed hl hf _).trans ?_)
  rw [request_of_check (s := s.framed p n) hc hv, enterRequest_framed, ht, requestOutcome_of_granted hlease' hw]
  exact syncOutputs_framed_answer s t p n seq _ _

theorem available_of_check {s : State} {p : HostNo} {set : Word} {comp : Byte} {term maxWait : Word}
    (h : s.requestCheck p set comp term maxWait = none) {c : ChannelNo} (hc : inSet set c = true)
    (hfault : ¬((s.channel c).fault.state = .faulted ∧ (s.channel c).config.policy = .revoke))
    (hx : (s.channel c).state ≠ .lockedOut) : (s.channel c).available = true := by
  obtain ⟨-, ⟨-, hleasable⟩, -, -⟩ := requestCheck_eq_none h
  have hfault' : ((s.channel c).fault.state == .faulted && (s.channel c).config.policy == .revoke) = false := by
    rw [← Bool.not_eq_true, Bool.and_eq_true, beq_iff_eq, beq_iff_eq]
    exact hfault
  unfold Channel.available
  rw [hleasable c hc, hfault', bne_iff_ne.2 hx]
  exact rfl

/-- What the hold in the pass of the lease's own REQUEST notices: EXPIRING alone (R61, R95). -/
theorem heldBy_own_hosts (s : State) (v : SlotNo) (l : Lease) : (s.heldBy (some v) v l).hosts =
    (if s.warns l.holder l.term then s.notify l.holder (.expiring (s.handle v) l.tag l.term) else s).hosts := by
  unfold State.heldBy
  rw [if_pos rfl]
  exact rfl

theorem entered_handle (s : State) (v : SlotNo) (l : Lease) : (s.entered v l).handle v = s.handle v := by
  have hgen : ((s.entered v l).slot v).gen = (s.slot v).gen :=
    (congrArg (fun x : Vector Slot 24 => (x.get v).gen) entered_slots).trans (setLease_gen s v v _)
  rw [State.handle, hgen]
  exact rfl

theorem entered_heldBy_hosts (s : State) (v : SlotNo) (l m : Lease) : ((s.entered v l).heldBy (some v) v m).hosts =
    (if s.warns m.holder m.term then s.notify m.holder (.expiring (s.handle v) m.tag m.term) else s).hosts := by
  have hwarns : (s.entered v l).warns m.holder m.term ↔ s.warns m.holder m.term := Iff.rfl
  rw [heldBy_own_hosts, entered_handle]
  simp only [hwarns]
  split <;> rfl

theorem entered_heldBy_channel (s : State) (v : SlotNo) (l : Lease) (c : ChannelNo) :
    ((s.entered v l).heldBy (some v) v l.grantedRecord).channel c = if inSet l.set c then
        { s.channel c with state := if s.inhibit.inEffect then .rearm v else .driven v (levelOf l.initial c) }
      else s.channel c := by
  rw [heldBy_channel, entered_channel]
  change (if inSet l.set c then _ else _) = _
  split <;> rfl

theorem entered_setLease_slots (s : State) (v : SlotNo) (l m : Lease) :
    ((s.entered v l).setLease v m).slots = (s.setLease v m).slots := by
  have h : ((s.entered v l).setLease v m).slots = ((s.setLease v l.grantedRecord).setLease v m).slots :=
    congrArg (fun x => bankModify x v fun y : Slot => { y with lease := some m }) entered_slots
  rw [h, setLease_setLease]

/-- A channel that enters a reservation keeps its output level (R3, R9). -/
theorem entered_output (s : State) (v : SlotNo) (l : Lease) (c : ChannelNo) :
    ((s.entered v l).channel c).output = (s.channel c).output := by
  rw [entered_channel]
  split
  · unfold Channel.output Channel.reserve
    cases (s.channel c).state with
    | brk link r m => cases link <;> rfl
    | _ => rfl
  · rfl

theorem levelOf_and {levels set : Word} {c : ChannelNo} (h : inSet set c = true) :
    levelOf (levels &&& set) c = levelOf levels c := by
  unfold levelOf
  rw [BitVec.getLsbD_and, show set.getLsbD c.val = true from h, Bool.and_true]

/-- Settles O13: by whether a channel of the set is in BREAK. -/
theorem requestGrantedAtOnce : Obligations.RequestGrantedAtOnce := by
  intro p n seq set levels comp term maxWait tag v s hl hf hcheck hv hq hfault l warns
  refine ⟨fun hfree => ?_, fun hopen hbreak => ?_⟩
  · have he := enterRequest_of_free (v := v) (l := l) hq fun c hc =>
      ⟨available_of_check hcheck hc (hfault c hc) (by rw [hfree c hc]; nofun), hfree c hc⟩
    have hlease := (heldBy_lease (s.entered v l) (some v) v l.grantedRecord v).trans (if_pos rfl)
    have hexec := request_exec (seq := seq) hl hf hcheck hv he hlease (by dsimp only; split <;> nofun)
    rw [if_neg (by dsimp only; split <;> nofun)] at hexec
    refine ⟨_, hexec, fun c => ?_, (heldBy_slots _ _ _ _).trans (entered_setLease_slots s v l _),
      (heldBy_waitQueue _ _ _ _).trans entered_waitQueue, entered_heldBy_hosts s v l l.grantedRecord, ?_,
      heldBy_sameRest (s.entered v l) _ _ _⟩
    · have hch := entered_heldBy_channel s v l c
      split
      · rename_i hc
        refine (syncOutputs_channel_goes (hch.trans (if_pos hc))).trans ?_
        rw [show levelOf l.initial c = levelOf levels c from levelOf_and hc]
      · rename_i hc
        exact syncOutputs_channel_same (hch.trans (if_neg hc))
    · exact congrArg (bankModify · p _) (heldBy_ports (s.entered v l) _ _ _)
  · have hlink : ∀ c, inSet l.set c = true → (s.channel c).state ≠ .lockedOut ∧ (s.channel c).state.link = none :=
      fun c hc => by
        rcases hopen c hc with hx | ⟨r, m, hx⟩ <;> rw [hx] <;> exact ⟨nofun, rfl⟩
    have hreserve : ∀ c, (s.entered v l).channel c = if inSet set c then
        { s.channel c with state := match (s.channel c).state with
          | .brk _ remaining ms => .brk (some v) remaining ms
          | _ => .reserved v }
        else s.channel c := fun c => by
      rw [entered_channel]
      by_cases hc : inSet set c = true
      · obtain ⟨hlocked, hnone⟩ := hlink c hc
        rw [if_pos hc]
        refine (if_pos hc).trans (congrArg (fun x => { s.channel c with state := x }) ?_)
        exact reserve_of_open hlocked (.inl hnone)
      · rw [if_neg hc]
        exact if_neg hc
    have hb : (s.entered v l).anyBreak l.set = true := by
      obtain ⟨c, hc, hx⟩ := hbreak
      refine (anyBreak_iff _ _).2 ⟨c, hc, ?_⟩
      rcases hopen c hc with hy | ⟨r, m, hy⟩
      · rw [hy] at hx
        cases hx
      · rw [hreserve c, if_pos hc]
        simp only [hy]
        exact rfl
    have he := enterRequest_of_break (v := v) (l := l) hq
      (fun c hc => ⟨available_of_check hcheck hc (hfault c hc) (hlink c hc).1, (hlink c hc).2⟩) hb
    have hexec := request_exec (seq := seq) hl hf hcheck hv he entered_lease nofun
    rw [syncOutputs_of_output (entered_output s v l), if_pos (show l.grantedRecord.state = .granting from rfl)] at hexec
    exact ⟨_, hexec, hreserve, entered_slots, entered_waitQueue (s := s) (l := l), rfl, rfl, rfl, rfl, rfl, rfl, rfl, rfl⟩

end Sys2Proof.Machine
end

section
/-! PROOFS. What a row does to the slots, the hosts, the ports and the configurations: what the shared operations leave of them, the
write that is the row's own, and its answer. -/

namespace Sys2Proof.Machine

/-! ### One slot -/

/-- What no work on a live lease changes (R26): its holder and max wait, and its priority, which ALTER alone writes (R82). -/
def Lease.claim (l : Lease) : HostNo × Priority × Nat := (l.holder, l.priority, l.maxWait)

/-- The slot keeps its generation and its lease with its claim, or its lease ends and the generation advances (R22). -/
inductive Slot.steps (x : Slot) : Slot → Prop
  | kept {y : Slot} (hgen : y.gen = x.gen) (hlease : y.lease.map Lease.claim = x.lease.map Lease.claim) : x.steps y
  | freed (h : x.lease ≠ none) : x.steps { gen := x.gen + 1, lease := none }

theorem steps_refl (x : Slot) : x.steps x := .kept rfl rfl

theorem steps_trans {x y z : Slot} (h : x.steps y) (h' : y.steps z) : x.steps z := by
  cases h with
  | kept hgen hlease =>
    cases h' with
    | kept hgen' hlease' => exact .kept (hgen'.trans hgen) (hlease'.trans hlease)
    | freed hy =>
      rw [hgen]
      refine .freed fun hx => hy ?_
      rw [hx] at hlease
      exact Option.map_eq_none_iff.1 hlease
  | freed hx =>
    cases h' with
    | kept hgen' hlease' =>
      obtain rfl : z = { gen := x.gen + 1, lease := none } := by
        cases z
        simp only [Option.map_none, Option.map_eq_none_iff] at hgen' hlease'
        rw [hgen', hlease']
      exact .freed hx
    | freed hy => exact absurd rfl hy

theorem clear_steps (x : Slot) : x.steps x.clear := by
  unfold Slot.clear
  split
  · rename_i l hl
    exact .freed (by rw [hl]; nofun)
  · exact steps_refl x

/-- Every slot steps from `s` to `t`. -/
def State.stepsTo (s t : State) : Prop := ∀ v, (s.slot v).steps (t.slot v)

theorem stepsTo_refl (s : State) : s.stepsTo s := fun _ => steps_refl _

theorem stepsTo_trans {s t u : State} (h : s.stepsTo t) (h' : t.stepsTo u) : s.stepsTo u := fun v =>
  steps_trans (h v) (h' v)

theorem stepsTo_modifyLease (s : State) (v : SlotNo) {f : Lease → Lease} (hf : ∀ l, (f l).claim = l.claim) :
    s.stepsTo (s.modifyLease v f) := fun u => by
  rw [modifyLease_slot]
  split
  · refine .kept rfl ?_
    rw [Option.map_map]
    exact congrArg (Option.map · _) (funext hf)
  · exact steps_refl _

theorem stepsTo_freeSlot {s : State} {v : SlotNo} (h : s.lease? v ≠ none) : s.stepsTo (s.freeSlot v) := fun u => by
  rw [freeSlot_slot]
  split
  · rename_i hu
    subst hu
    exact .freed h
  · exact steps_refl _

/-! ### The slots through the shared operations -/

theorem takeOut_slots (s : State) (v : SlotNo) : (s.takeOut v).slots = s.slots := by
  unfold State.takeOut
  repeat' split
  all_goals rfl

theorem stepsTo_endQuietly {s : State} {v : SlotNo} (h : s.lease? v ≠ none) : s.stepsTo (s.endQuietly v) := by
  have hs : ∀ u, (s.takeOut v).slot u = s.slot u := fun u => congrArg (fun x => x.get u) (takeOut_slots s v)
  have hf : (s.takeOut v).stepsTo (s.endQuietly v) := stepsTo_freeSlot (by rw [State.lease?, hs]; exact h)
  exact fun u => hs u ▸ hf u

theorem stepsTo_endLease (s : State) (v : SlotNo) (n : Notice) : s.stepsTo (s.endLease v n) := by
  unfold State.endLease
  split
  · exact stepsTo_refl s
  · rename_i l hl
    exact stepsTo_endQuietly (by rw [hl]; nofun)

theorem stepsTo_warningCheck (s : State) (v : SlotNo) : s.stepsTo (s.warningCheck v) := by
  unfold State.warningCheck
  split
  · exact stepsTo_refl s
  · split
    · exact stepsTo_modifyLease s v fun _ => rfl
    · exact stepsTo_refl s

theorem stepsTo_holdLease (s : State) (own : Option SlotNo) (v : SlotNo) : s.stepsTo (s.holdLease own v) := by
  unfold State.holdLease
  split
  · exact stepsTo_refl s
  · refine stepsTo_trans ?_ (stepsTo_warningCheck _ v)
    have h : s.stepsTo (s.modifyLease v (Lease.heldRecord s.inhibit.inEffect)) := stepsTo_modifyLease s v fun _ => rfl
    split <;> exact h

theorem stepsTo_holdUnlessBreak (s : State) (own : Option SlotNo) (v : SlotNo) (set : Word) :
    s.stepsTo (s.holdUnlessBreak own v set) := by
  unfold State.holdUnlessBreak
  split
  · exact stepsTo_refl s
  · exact stepsTo_holdLease s own v

theorem stepsTo_preempt (s : State) (w : SlotNo) (wset : Word) (v : SlotNo) : s.stepsTo (State.preempt w wset s v) := by
  unfold State.preempt
  split
  · exact stepsTo_refl s
  · rename_i l hl
    dsimp only
    split
    · exact stepsTo_modifyLease s v (f := Lease.requeuedRecord) fun _ => rfl
    · exact stepsTo_freeSlot (s := s) (by rw [hl]; nofun)

theorem stepsTo_preempts (w : SlotNo) (wset : Word) (vs : List SlotNo) (s : State) :
    s.stepsTo (vs.foldl (State.preempt w wset) s) := by
  induction vs generalizing s with
  | nil => exact stepsTo_refl s
  | cons v vs ih => exact stepsTo_trans (stepsTo_preempt s w wset v) (ih _)

theorem stepsTo_grant (s : State) (own : Option SlotNo) (w : SlotNo) : s.stepsTo (s.grant own w) := by
  unfold State.grant
  split
  · exact stepsTo_refl s
  · rename_i l _
    have hreserve (t : State) : t.stepsTo (t.reserveSet w l.set) :=
      stepsTo_modifyLease t w (f := Lease.grantedRecord) fun _ => rfl
    exact stepsTo_trans (stepsTo_trans (stepsTo_preempts w l.set _ s) (hreserve _)) (stepsTo_holdUnlessBreak _ own w l.set)

theorem stepsTo_pass (s : State) (own : Option SlotNo) : s.stepsTo (s.pass own) :=
  pass_induct (P := s.stepsTo) own (fun t _ w h _ _ => stepsTo_trans h (stepsTo_grant t own w)) (stepsTo_refl s)

/-! ### The work on the part -/

/-- What the part keeps for a host besides the notices that wait (R142, R148). -/
def HostRecord.standing (r : HostRecord) : HostRecord := { r with notices := [] }

theorem receive_standing (n : Notice) (r : HostRecord) : (r.receive n).standing = r.standing := by
  unfold HostRecord.receive
  split <;> rfl

/-- The work that every row has a share in, from `s` to `t`: channels and leases may change, leases may end and notices may come,
and no lease is admitted or competes otherwise, no host's standing, configuration, port or qualified state changes. -/
structure State.works (s t : State) : Prop where
  slots : s.stepsTo t
  config : ∀ c, (t.channel c).config = (s.channel c).config
  hosts : ∀ g, (t.host g).standing = (s.host g).standing
  ports : t.ports = s.ports
  sweep : t.sweep = s.sweep
  inEffect : t.inhibit.inEffect = s.inhibit.inEffect

theorem works_refl (s : State) : s.works s := ⟨stepsTo_refl s, fun _ => rfl, fun _ => rfl, rfl, rfl, rfl⟩

theorem works_trans {s t u : State} (h : s.works t) (h' : t.works u) : s.works u :=
  ⟨stepsTo_trans h.slots h'.slots, fun c => (h'.config c).trans (h.config c), fun g => (h'.hosts g).trans (h.hosts g),
    h'.ports.trans h.ports, h'.sweep.trans h.sweep, h'.inEffect.trans h.inEffect⟩

theorem works_of_leasesOnly {s t : State} (h : s.leasesOnly t) (hs : s.stepsTo t) : s.works t where
  slots := hs
  config := h.config
  hosts g := by
    simp only [HostRecord.standing, h.quota, h.ceiling, h.configRight, h.clearRight, h.mask, h.lead]
  ports := h.ports
  sweep := h.rest.1
  inEffect := congrArg InhibitInput.inEffect h.rest.2.1

theorem works_pass (s : State) (own : Option SlotNo) : s.works (s.pass own) :=
  works_of_leasesOnly (pass_leasesOnly s own) (stepsTo_pass s own)

theorem works_endLease (s : State) (v : SlotNo) (n : Notice) : s.works (s.endLease v n) :=
  works_of_leasesOnly (endLease_leasesOnly s v n) (stepsTo_endLease s v n)

theorem works_endQuietly {s : State} {v : SlotNo} (h : s.lease? v ≠ none) : s.works (s.endQuietly v) :=
  works_of_leasesOnly (leasesOnly_trans (takeOut_leasesOnly s v) (modifySlot_leasesOnly _ v _)) (stepsTo_endQuietly h)

theorem works_warningCheck (s : State) (v : SlotNo) : s.works (s.warningCheck v) :=
  works_of_leasesOnly (warningCheck_leasesOnly s v) (stepsTo_warningCheck s v)

theorem works_holdUnlessBreak (s : State) (own : Option SlotNo) (v : SlotNo) (set : Word) :
    s.works (s.holdUnlessBreak own v set) :=
  works_of_leasesOnly (holdUnlessBreak_leasesOnly s own v set) (stepsTo_holdUnlessBreak s own v set)

theorem works_modifyLease (s : State) (v : SlotNo) {f : Lease → Lease} (hf : ∀ l, (f l).claim = l.claim) :
    s.works (s.modifyLease v f) :=
  works_of_leasesOnly (modifySlot_leasesOnly s v _) (stepsTo_modifyLease s v hf)

theorem works_setQueue (s : State) (q : List SlotNo) : s.works (s.setQueue q) :=
  works_of_leasesOnly (setQueue_leasesOnly s q) (stepsTo_refl s)

theorem works_notify (s : State) (g : HostNo) (n : Notice) : s.works (s.notify g n) :=
  works_of_leasesOnly (notify_leasesOnly s g n) (stepsTo_refl s)

theorem works_notifyAll (s : State) (n : Notice) : s.works (s.notifyAll n) :=
  ⟨stepsTo_refl s, fun _ => rfl, fun g => by rw [notifyAll_host, receive_standing], rfl, rfl, rfl⟩

theorem works_mapChannels (s : State) {f : ChannelNo → Channel → Channel} (hf : ∀ c ch, (f c ch).config = ch.config) :
    s.works (s.mapChannels f) :=
  ⟨stepsTo_refl s, fun c => by rw [mapChannels_channel, hf], fun _ => rfl, rfl, rfl, rfl⟩

theorem works_mapSet (s : State) (set : Word) (f : Channel → ChannelState) : s.works (s.mapSet set f) :=
  works_mapChannels s fun c ch => by split <;> rfl

theorem works_modifyChannel (s : State) (c : ChannelNo) {f : Channel → Channel} (hf : ∀ ch, (f ch).config = ch.config) :
    s.works (s.modifyChannel c f) :=
  works_mapChannels s (f := fun d ch => if d = c then f ch else ch) fun d ch => by
    split
    · exact hf ch
    · rfl

theorem works_mapLeaseStates (s : State) (f : LeaseState → LeaseState) : s.works (s.mapLeaseStates f) := by
  refine ⟨fun v => ?_, fun _ => rfl, fun _ => rfl, rfl, rfl, rfl⟩
  rw [show (s.mapLeaseStates f).slot v = _ from bank_get _ v]
  refine .kept rfl ?_
  rw [Option.map_map]
  rfl

theorem clearTable_host (s : State) (g : HostNo) : s.clearTable.host g = { s.host g with notices := [.tableReset] } :=
  bank_get _ g

theorem works_clearTable (s : State) : s.works s.clearTable :=
  ⟨fun v => clearTable_slot s v ▸ clear_steps _, fun c => by rw [clearTable_channel],
    fun g => by rw [clearTable_host]; rfl, rfl, rfl, rfl⟩

end Sys2Proof.Machine
end

section
/-! PROOFS. What the work of each row does, said once: the write that is the row's own, the work that every row has a share in, and
the answer; and which part of this a row's frame takes. -/

namespace Sys2Proof.Machine

/-! ### The write of a row -/

/-- The write from `s` that row `i` alone makes, under the checks that guard it: a lease admitted (R33, R36) or its competition
fields written (R82), a configuration (R157), an authority entry (R151 to R153) or a mask (R142) written, the sweep moved on (R117),
or a change of inhibit qualified (R107, R110). A row that fails its checks, or has no such write, makes none. -/
inductive State.writes (s : State) : Instr → State → Prop
  | nothing (i : Instr) : s.writes i s
  | admission {p n seq set levels comp term maxWait tag v} {l : Lease} (hv : s.lease? v = none) (hp : l.holder = p)
      (hc : l.priority ≤ (s.host p).ceiling) (hq : s.liveCount p < (s.host p).quota) :
      s.writes (.request p n seq set levels comp term maxWait tag) (s.setLease v l)
  | competition {p n seq slot gen comp v} {l : Lease} {pr : Priority} {preemptible requeue : Bool} (hv : s.lease? v = some l)
      (hp : l.holder = p) (hc : pr ≤ (s.host p).ceiling) :
      s.writes (.alter p n seq slot gen comp) (s.setLease v (l.competing pr preemptible requeue))
  | configuration {p n seq channel flags breakTime settleTime threshold} (c : ChannelNo) (k : ChannelConfig) :
      s.writes (.setChannel p n seq channel flags breakTime settleTime threshold) (s.modifyChannel c (Channel.configure k))
  | authority {p n seq host quota ceiling rights} {g : HostNo} {q : Nat} {c : Priority} {config : Bool} (clear : Bool)
      (hq : s.liveCount g ≤ q) (hc : s.underCeiling g c = true) (ha : config = true ∨ s.otherAuthority g = true) :
      s.writes (.setHost p n seq host quota ceiling rights)
        (s.modifyHost g fun r => { r with quota := q, ceiling := c, config := config, clear := clear })
  | mask {p n seq mask lead} (m : Word) (k : Nat) :
      s.writes (.setNotices p n seq mask lead) (s.modifyHost p fun r => { r with mask := m, lead := k })
  | sweep {fb} : s.writes (.sweepVisit fb) { s with sweep := s.sweep + 1 }
  | assertion : s.writes .assertion (s.qualify true)
  | release : s.writes .releaseOfInhibit (s.qualify false)

/-- What row `i` does to the part besides the end of its frame: its own write, the work that every row has a share in, and the
answer of a command to its port. -/
inductive State.does (s : State) (i : Instr) : State → Prop
  | quiet {b t : State} (hw : s.writes i b) (ht : b.works t) : s.does i t
  | answered {b t : State} {p : HostNo} {seq : Byte} {r : Result} {fields : List Byte} (hp : i.portOf = some p)
      (hw : s.writes i b) (ht : b.works t) : s.does i (t.answer p seq r fields)

theorem does_nothing (s : State) (i : Instr) : s.does i s := .quiet (.nothing i) (works_refl s)

theorem does_works {s t : State} (i : Instr) (h : s.works t) : s.does i t := .quiet (.nothing i) h

theorem does_answer {s t : State} {i : Instr} {p : HostNo} (hp : i.portOf = some p) (h : s.works t) (seq : Byte) (r : Result)
    (fields : List Byte) : s.does i (t.answer p seq r fields) := .answered hp (.nothing i) h

theorem does_refuse {s : State} {i : Instr} {p : HostNo} (hp : i.portOf = some p) (seq : Byte) (r : Result) :
    s.does i (s.refuse p seq r) := does_answer hp (works_refl s) seq r []

/-- A command that carries a handle is refused, or does its work on a live lease of its host (R24, R66). -/
theorem onOwnLease_does {s : State} {i : Instr} {p : HostNo} (hp : i.portOf = some p) (seq slot gen : Byte)
    {body : SlotNo → Lease → State} (hb : ∀ v l, s.lease? v = some l → l.holder = p → s.does i (body v l)) :
    s.does i (s.onOwnLease p seq slot gen body) := by
  unfold State.onOwnLease
  split
  · exact does_refuse hp _ _
  · rename_i v l hn
    split
    · rename_i hl
      exact hb v l (lease_of_named hn) hl
    · exact does_refuse hp _ _

/-! ### The commands on leases -/

theorem requestOutcome_does {s t : State} {i : Instr} {p : HostNo} (hp : i.portOf = some p) {b : State} (hw : s.writes i b)
    (ht : b.works t) (seq : Byte) (v : SlotNo) (h : Handle) : s.does i (t.requestOutcome p seq v h) := by
  unfold State.requestOutcome
  split
  · rename_i l hl
    split
    · exact .answered hp hw ht
    · exact .answered hp hw ht
    · exact .answered hp hw ht
    · split
      · exact .answered hp hw ht
      · have hfree : (t.dequeue v).works ((t.dequeue v).freeSlot v) :=
          works_of_leasesOnly (modifySlot_leasesOnly _ v _)
            (stepsTo_freeSlot (s := t.dequeue v) (by rw [dequeue_lease, hl]; nofun))
        exact .answered hp hw (works_trans ht (works_trans (works_setQueue t _) hfree))
  · exact .answered hp hw ht

theorem request_does (s : State) (p : HostNo) (n : Nat) (seq : Byte) (set levels : Word) (comp : Byte)
    (term maxWait tag : Word) : s.does (.request p n seq set levels comp term maxWait tag)
      (s.request p seq set levels comp term maxWait tag) := by
  unfold State.request
  split
  · rename_i pr preemptible requeue t w _ _ _
    split
    · exact does_refuse rfl _ _
    split
    · exact does_refuse rfl _ _
    split
    · exact does_refuse rfl _ _
    rename_i hc
    split
    · exact does_refuse rfl _ _
    rename_i hq
    split
    · exact does_refuse rfl _ _
    rename_i v hv
    exact requestOutcome_does rfl
      (.admission (l := Lease.admitted p set levels pr preemptible requeue term maxWait tag) (lowestFree_eq_some hv) rfl
        (not_lt.1 hc) (not_le.1 hq))
      (works_trans (works_setQueue _ _) (works_pass _ _)) seq v _
  · exact does_refuse rfl _ _

theorem renew_does {s : State} {i : Instr} {p : HostNo} (hp : i.portOf = some p) (seq : Byte) (newTerm : Word) (v : SlotNo)
    (l : Lease) : s.does i (s.renew p seq newTerm v l) := by
  have hrenew (t : Nat) : s.works ((s.modifyLease v (Lease.renewed t)).warningCheck v) :=
    works_trans (works_modifyLease s v fun _ => by rfl) (works_warningCheck _ v)
  unfold State.renew
  split
  · exact does_refuse hp _ _
  · dsimp only
    split
    · exact does_refuse hp _ _
    · exact does_answer hp (works_modifyLease s v fun _ => by rfl) _ _ _
    · exact does_answer hp (hrenew _) _ _ _
    · exact does_answer hp (hrenew _) _ _ _

theorem drive_does {s : State} {i : Instr} {p : HostNo} (hp : i.portOf = some p) (seq : Byte) (mask levels : Word) (v : SlotNo)
    (l : Lease) : s.does i (s.drive p seq mask levels v l) := by
  unfold State.drive
  split
  · exact does_refuse hp _ _
  · split
    · exact does_refuse hp _ _
    · exact does_answer hp (works_trans (works_mapChannels s fun c ch => by split <;> rfl)
        (works_modifyLease _ v fun _ => by rfl)) _ _ _
    · exact does_answer hp (works_modifyLease s v fun _ => by rfl) _ _ _
    · exact does_answer hp (works_modifyLease s v fun _ => by rfl) _ _ _

theorem works_shedChannels (s : State) (shed : Word) (v : SlotNo) (l : Lease) : s.works (s.shedChannels shed v l) := by
  have hleave : s.works ((s.mapSet shed Channel.leave).modifyLease v (Lease.without shed)) :=
    works_trans (works_mapSet s shed _) (works_modifyLease _ v fun _ => by rfl)
  unfold State.shedChannels
  split
  · exact works_modifyLease s v fun _ => by rfl
  · exact hleave
  · exact hleave
  · exact works_trans hleave (works_holdUnlessBreak _ _ _ _)

theorem shed_does {s : State} {i : Instr} {p : HostNo} (hp : i.portOf = some p) (seq : Byte) (set : Word) (v : SlotNo)
    (l : Lease) : s.does i (s.shed p seq set v l) := by
  unfold State.shed
  split
  · exact does_refuse hp _ _
  · split
    · exact does_refuse hp _ _
    · exact does_answer hp (works_trans (works_shedChannels s set v l) (works_pass _ _)) _ _ _

/-- The competition fields of a live lease and its place in the queue (R45, R82). -/
theorem writeCompetition_works {s : State} {v : SlotNo} {l : Lease} (hl : s.lease? v = some l) (pr : Priority)
    (preemptible requeue : Bool) :
    (s.setLease v (l.competing pr preemptible requeue)).works (s.writeCompetition v l pr preemptible requeue) := by
  rw [writeCompetition_eq, ← modifyLease_eq_setLease hl (Lease.competing pr preemptible requeue)]
  split
  · exact works_trans (works_setQueue _ (s.dequeue v).waitQueue) (works_setQueue _ _)
  · exact works_refl _

theorem alter_does {s : State} {p : HostNo} {v : SlotNo} {l : Lease} (hl : s.lease? v = some l) (hp : l.holder = p)
    (n : Nat) (seq slot gen comp : Byte) : s.does (.alter p n seq slot gen comp) (s.alter p seq comp v l) := by
  unfold State.alter
  split
  · exact does_refuse rfl _ _
  · split
    · exact does_refuse rfl _ _
    · rename_i hc
      exact .answered rfl (.competition hl hp (not_lt.1 hc))
        (works_trans (writeCompetition_works hl _ _ _) (works_pass _ _))

theorem revoke_does {s : State} {i : Instr} {p : HostNo} (hp : i.portOf = some p) (seq slot gen : Byte) :
    s.does i (s.revoke p seq slot gen) := by
  unfold State.revoke
  split
  · exact does_refuse hp _ _
  · split
    · exact does_refuse hp _ _
    · exact does_answer hp (works_trans (works_endLease s _ _) (works_pass _ _)) _ _ _

/-! ### The end of every lease of a host -/

/-- The part after R37 and R38 for the leases of the slots `vs`. -/
def State.withoutAll (s : State) (vs : List SlotNo) : State :=
  { s with
    channels := bank fun c =>
      if ∃ v ∈ vs, ∃ l ∈ s.lease? v, l.state ≠ .waiting ∧ inSet l.set c = true then
        { s.channel c with state := (s.channel c).leave } else s.channel c
    slots := bank fun v => if v ∈ vs then { gen := (s.slot v).gen + 1, lease := none } else s.slot v
    waitQueue := s.waitQueue.filter fun v => decide (¬ (v ∈ vs ∧ ∃ l ∈ s.lease? v, l.state = .waiting)) }

theorem withoutAll_channel (s : State) (vs : List SlotNo) (c : ChannelNo) : (s.withoutAll vs).channel c =
    if ∃ v ∈ vs, ∃ l ∈ s.lease? v, l.state ≠ .waiting ∧ inSet l.set c = true then
      { s.channel c with state := (s.channel c).leave } else s.channel c := bank_get _ c

theorem withoutAll_slot (s : State) (vs : List SlotNo) (v : SlotNo) : (s.withoutAll vs).slot v =
    if v ∈ vs then { gen := (s.slot v).gen + 1, lease := none } else s.slot v := bank_get _ v

theorem withoutAll_nil (s : State) : s.withoutAll [] = s := by
  apply state_ext <;> intros <;> try rfl
  · simp [withoutAll_channel]
  · simp [withoutAll_slot]
  · simp [State.withoutAll]

/-- A channel that has left its lease stands when it is told to leave again (R12). -/
theorem leave_leave (ch : Channel) : ({ ch with state := ch.leave } : Channel).leave = ch.leave := by
  unfold Channel.leave
  cases ch.state with
  | driven => by_cases hb : ch.config.breakTime = 0 <;> simp [hb]
  | _ => rfl

theorem withoutLease_slot (s : State) (v u : SlotNo) (l : Lease) :
    (s.withoutLease v l).slot u = if u = v then { gen := (s.slot u).gen + 1, lease := none } else s.slot u :=
  bankModify_get _ v u _

/-- The channels that leave with the first lease and with the others leave together. -/
theorem withoutLease_withoutAll_channel {s : State} {v : SlotNo} {l : Lease} {vs : List SlotNo} (hl : s.lease? v = some l)
    (hlease : ∀ u ∈ vs, (s.withoutLease v l).lease? u = s.lease? u) (c : ChannelNo) :
    ((s.withoutLease v l).withoutAll vs).channel c = (s.withoutAll (v :: vs)).channel c := by
  have hfirst : (s.withoutLease v l).channel c = if l.state ≠ .waiting ∧ inSet l.set c = true then
      { s.channel c with state := (s.channel c).leave } else s.channel c := by
    by_cases hw : l.state = .waiting
    · rw [withoutLease_channel_waiting hw, if_neg fun h => h.1 hw]
    · rw [withoutLease_channel hw]
      simp only [ne_eq, hw, not_false_eq_true, true_and]
  have hrest : (∃ u ∈ vs, ∃ m ∈ (s.withoutLease v l).lease? u, m.state ≠ .waiting ∧ inSet m.set c = true) ↔
      ∃ u ∈ vs, ∃ m ∈ s.lease? u, m.state ≠ .waiting ∧ inSet m.set c = true :=
    exists_congr fun u => and_congr_right fun hu => by rw [hlease u hu]
  have hall : (∃ u ∈ v :: vs, ∃ m ∈ s.lease? u, m.state ≠ .waiting ∧ inSet m.set c = true) ↔
      (l.state ≠ .waiting ∧ inSet l.set c = true) ∨
        ∃ u ∈ vs, ∃ m ∈ s.lease? u, m.state ≠ .waiting ∧ inSet m.set c = true := by
    simp only [List.mem_cons, exists_eq_or_imp, hl, Option.mem_def, Option.some.injEq, exists_eq_left']
  rw [withoutAll_channel, withoutAll_channel, hfirst]
  simp only [hrest, hall]
  split
  · rename_i hr
    simp only [hr, or_true, if_true]
    split
    · rw [leave_leave]
    · rfl
  · rename_i hn
    simp only [hn, or_false]

/-- Leases that end one after the other end together. -/
theorem endQuietly_foldl {vs : List SlotNo} (hn : vs.Nodup) {s : State} (hl : ∀ v ∈ vs, s.lease? v ≠ none) :
    vs.foldl State.endQuietly s = s.withoutAll vs := by
  induction vs generalizing s with
  | nil => exact (withoutAll_nil s).symm
  | cons v vs ih =>
    obtain ⟨hv, hn⟩ := List.nodup_cons.1 hn
    obtain ⟨l, hlv⟩ := Option.ne_none_iff_exists'.1 (hl v (.head vs))
    have hlease : ∀ u ∈ vs, (s.withoutLease v l).lease? u = s.lease? u := fun u hu => by
      rw [withoutLease_lease, if_neg (ne_of_mem_of_not_mem hu hv)]
    rw [List.foldl_cons, endQuietly_eq hlv, ih hn fun u hu => by rw [hlease u hu]; exact hl u (.tail v hu)]
    apply state_ext <;> intros <;> try rfl
    · exact withoutLease_withoutAll_channel hlv hlease _
    · rename_i u
      rw [withoutAll_slot, withoutAll_slot, withoutLease_slot]
      by_cases hu : u = v
      · simp [hu, hv]
      · simp [hu]
    · change (s.withoutLease v l).waitQueue.filter _ = s.waitQueue.filter _
      rw [withoutLease_waitQueue]
      by_cases hw : l.state = .waiting
      · rw [if_pos hw, List.filter_filter]
        refine List.filter_congr fun u _ => ?_
        by_cases hu : u = v
        · simp [hu, hlv, hw]
        · by_cases huvs : u ∈ vs
          · simp [hu, huvs, hlease u huvs]
          · simp [hu, huvs]
      · rw [if_neg hw]
        refine List.filter_congr fun u _ => ?_
        by_cases hu : u = v
        · simp [hu, hv, hlv, hw]
        · by_cases huvs : u ∈ vs
          · simp [hu, huvs, hlease u huvs]
          · simp [hu, huvs]

theorem mem_slotsOf {s : State} {p : HostNo} {v : SlotNo} : v ∈ s.slotsOf p ↔ ∃ l ∈ s.lease? v, l.holder = p := by
  unfold State.slotsOf
  rw [List.mem_filter]
  cases s.lease? v <;> simp

theorem slotsOf_nodup (s : State) (p : HostNo) : (s.slotsOf p).Nodup := (List.nodup_finRange 24).filter _

theorem releaseAll_eq (s : State) (p : HostNo) (seq : Byte) :
    s.releaseAll p seq = ((s.withoutAll (s.slotsOf p)).pass none).answer p seq .ok [byteOf (s.slotsOf p).length] := by
  unfold State.releaseAll
  rw [endQuietly_foldl (slotsOf_nodup s p) fun v hv => ?_]
  obtain ⟨l, hl, -⟩ := mem_slotsOf.1 hv
  rw [hl]
  nofun

theorem works_withoutAll {s : State} {vs : List SlotNo} (hl : ∀ v ∈ vs, s.lease? v ≠ none) : s.works (s.withoutAll vs) := by
  refine ⟨fun v => ?_, fun c => ?_, fun _ => rfl, rfl, rfl, rfl⟩
  · rw [withoutAll_slot]
    split
    · rename_i hv
      exact .freed (hl v hv)
    · exact steps_refl _
  · rw [withoutAll_channel]
    split <;> rfl

theorem releaseAll_does {s : State} {i : Instr} {p : HostNo} (hp : i.portOf = some p) (seq : Byte) :
    s.does i (s.releaseAll p seq) := by
  rw [releaseAll_eq]
  refine does_answer hp (works_trans (works_withoutAll fun v hv => ?_) (works_pass _ _)) _ _ _
  obtain ⟨l, hl, -⟩ := mem_slotsOf.1 hv
  rw [hl]
  nofun

/-! ### Configuration, notices and faults -/

theorem setHost_does (s : State) (p : HostNo) (n : Nat) (seq host quota ceiling rights : Byte) :
    s.does (.setHost p n seq host quota ceiling rights) (s.setHost p seq host quota ceiling rights) := by
  unfold State.setHost
  split
  · exact does_refuse rfl _ _
  · split
    · exact does_refuse rfl _ _
    · rename_i g q c config clear _
      split
      · exact does_refuse rfl _ _
      rename_i hq
      split
      · exact does_refuse rfl _ _
      rename_i hc
      split
      · exact does_refuse rfl _ _
      rename_i ha
      have ha' : config = true ∨ s.otherAuthority g = true := by
        rw [not_and_or, Bool.not_eq_false, Bool.not_eq_false] at ha
        exact ha
      exact .answered rfl (.authority clear (not_lt.1 hq) (Bool.not_eq_false _ ▸ hc) ha') (works_refl _)

theorem setChannel_does (s : State) (p : HostNo) (n : Nat) (seq channel flags breakTime settleTime threshold : Byte) :
    s.does (.setChannel p n seq channel flags breakTime settleTime threshold)
      (s.setChannel p seq channel flags breakTime settleTime threshold) := by
  unfold State.setChannel
  split
  · exact does_refuse rfl _ _
  · split
    · rename_i c k _ _
      split
      · exact does_refuse rfl _ _
      split
      · exact does_refuse rfl _ _
      dsimp only
      split
      · exact .answered rfl (.configuration c k) (works_pass _ _)
      · exact .answered rfl (.configuration c k) (works_refl _)
    · exact does_refuse rfl _ _

theorem clearFault_does {s : State} {i : Instr} {p : HostNo} (hp : i.portOf = some p) (seq channel : Byte) :
    s.does i (s.clearFault p seq channel) := by
  unfold State.clearFault
  split
  · exact does_refuse hp _ _
  · repeat' split
    · exact does_refuse hp _ _
    · exact does_refuse hp _ _
    · exact does_refuse hp _ _
    · exact does_answer hp (works_trans (works_modifyChannel s _ fun _ => by rfl) (works_pass _ _)) _ _ _

theorem tableReset_does {s : State} {i : Instr} {p : HostNo} (hp : i.portOf = some p) (seq : Byte) :
    s.does i (s.tableReset p seq) := by
  unfold State.tableReset
  split
  · exact does_refuse hp _ _
  · exact does_answer hp (works_clearTable s) _ _ _

theorem setNotices_does (s : State) (p : HostNo) (n : Nat) (seq : Byte) (mask : Word) (lead : Byte) :
    s.does (.setNotices p n seq mask lead) (s.setNotices p seq mask lead) := by
  unfold State.setNotices
  split
  · exact does_refuse rfl _ _
  · exact .answered rfl (.mask _ _) (works_refl _)

theorem works_modifyHost (s : State) (g : HostNo) {f : HostRecord → HostRecord} (hf : ∀ r, (f r).standing = r.standing) :
    s.works (s.modifyHost g f) := by
  refine ⟨stepsTo_refl s, fun _ => rfl, fun h => ?_, rfl, rfl, rfl⟩
  rw [modifyHost_host]
  split
  · exact hf _
  · rfl

theorem readNotice_does {s : State} {i : Instr} {p : HostNo} (hp : i.portOf = some p) (seq : Byte) :
    s.does i (s.readNotice p seq) := by
  unfold State.readNotice
  split
  · exact does_answer hp (works_refl s) _ _ _
  · exact does_answer hp (works_modifyHost s p fun _ => by rfl) _ _ _

/-! ### The timed events -/

theorem works_expire (s : State) (v : SlotNo) (l : Lease) : s.works (s.expire v l) :=
  works_trans (works_endLease s v _) (works_pass _ _)

theorem works_timeOut (s : State) (v : SlotNo) (l : Lease) : s.works (s.timeOut v l) :=
  works_trans (works_endLease s v _) (works_pass _ _)

theorem works_termStep (s : State) (v : SlotNo) : s.works (s.termStep v) := by
  unfold State.termStep
  repeat' split
  · exact works_refl s
  · exact works_expire s v _
  · exact works_trans (works_modifyLease s v fun _ => by rfl) (works_warningCheck _ v)
  · exact works_refl s

theorem works_expiryEvent (s : State) (v : SlotNo) : s.works (s.expiryEvent v) := by
  unfold State.expiryEvent
  repeat' split
  · exact works_refl s
  · exact works_expire s v _
  · exact works_refl s

theorem works_waitStep (s : State) (v : SlotNo) : s.works (s.waitStep v) := by
  unfold State.waitStep
  repeat' split
  · exact works_refl s
  · exact works_timeOut s v _
  · exact works_modifyLease s v fun _ => by rfl
  · exact works_refl s

theorem works_timeoutEvent (s : State) (v : SlotNo) : s.works (s.timeoutEvent v) := by
  unfold State.timeoutEvent
  repeat' split
  · exact works_refl s
  · exact works_timeOut s v _
  · exact works_refl s

theorem works_endBreak (s : State) (c : ChannelNo) (link : Option SlotNo) : s.works (s.endBreak c link) := by
  refine works_trans (works_modifyChannel s c (f := fun ch => { ch with state := ch.endBreak }) fun _ => rfl) ?_
  unfold State.endBreak State.breakEnded
  repeat' split
  · exact works_pass _ _
  · exact works_refl _
  · exact works_holdUnlessBreak _ _ _ _

theorem works_breakCountdown (s : State) (c : ChannelNo) : s.works (s.breakCountdown c) := by
  unfold State.breakCountdown
  split
  · split
    · split
      · exact works_endBreak s c _
      · exact works_modifyChannel s c fun _ => by rfl
    · exact works_refl s
  all_goals exact works_refl s

theorem works_breakEndReserved (s : State) (c : ChannelNo) : s.works (s.breakEndReserved c) := by
  unfold State.breakEndReserved
  split
  · split
    · exact works_endBreak s c _
    · exact works_refl s
  all_goals exact works_refl s

theorem works_breakEndUnreserved (s : State) (c : ChannelNo) : s.works (s.breakEndUnreserved c) := by
  unfold State.breakEndUnreserved
  split
  · split
    · exact works_endBreak s c _
    · exact works_refl s
  all_goals exact works_refl s

theorem works_settleTick (s : State) : s.works s.settleTick := works_mapChannels s fun _ _ => by rfl

/-! ### Supervision -/

theorem works_revokeForFault (s : State) (c : ChannelNo) (kind : FaultKind) (v : SlotNo) (l : Lease) :
    s.works (s.revokeForFault c kind v l) :=
  works_trans (works_endLease s v _) (works_pass _ _)

theorem works_lockOut (s : State) (c : ChannelNo) : s.works (s.lockOut c) :=
  works_modifyChannel s c fun _ => by rfl

theorem works_reportFault (s : State) (c : ChannelNo) (kind : FaultKind) (linked : Option (SlotNo × Lease)) :
    s.works (s.reportFault c kind linked) := by
  unfold State.reportFault
  split
  · exact works_notify s _ _
  · exact works_notifyAll s _

theorem works_applyPolicy (s : State) (c : ChannelNo) (kind : FaultKind) (linked : Option (SlotNo × Lease)) :
    s.works (s.applyPolicy c kind linked) := by
  unfold State.applyPolicy
  split
  · exact works_refl s
  · exact works_refl s
  · exact works_revokeForFault s c kind _ _
  · exact works_lockOut s c
  · exact works_trans (works_lockOut s c) (works_revokeForFault _ c kind _ _)

theorem works_countDisagreement (s : State) (c : ChannelNo) (n : Nat) : s.works (s.countDisagreement c n) := by
  unfold State.countDisagreement
  dsimp only
  split
  · exact works_trans (works_modifyChannel s c fun _ => by rfl)
      (works_trans (works_reportFault _ c _ _) (works_applyPolicy _ c _ _))
  · exact works_modifyChannel s c fun _ => by rfl

theorem works_compare (s : State) (c : ChannelNo) (disagrees : Bool) : s.works (s.compare c disagrees) := by
  unfold State.compare
  dsimp only
  split
  · exact works_modifyChannel s c fun _ => by rfl
  · split
    · exact works_countDisagreement s c 1
    · exact works_refl s
  · split
    · exact works_countDisagreement s c _
    · exact works_modifyChannel s c fun _ => by rfl

theorem works_visit (s : State) (c : ChannelNo) : s.works (s.visit c) := by
  unfold State.visit
  dsimp only
  split
  · exact works_compare s c _
  · exact works_refl s

theorem assertInhibit_works (s : State) : (s.qualify true).works s.assertInhibit :=
  works_trans (works_trans (works_mapChannels _ fun _ _ => by rfl) (works_mapLeaseStates _ _)) (works_notifyAll _ _)

theorem liftInhibit_works (s : State) : (s.qualify false).works s.liftInhibit :=
  works_trans (works_mapLeaseStates _ _) (works_notifyAll _ _)

/-! ### Every row -/

/-- What each row does: its own write, work that every row has a share in, and its answer. -/
theorem perform_does (s : State) (i : Instr) : s.does i (s.perform i) := by
  cases i with
  | noop | frameStart | frameError | deviceReset | resetComplete | inhibitLineChange => exact does_nothing s _
  | request p n seq set levels comp term maxWait tag => exact request_does s p n seq set levels comp term maxWait tag
  | renew p _ seq slot gen newTerm => exact onOwnLease_does rfl seq slot gen fun v l _ _ => renew_does rfl seq newTerm v l
  | drive p _ seq slot gen mask levels =>
    exact onOwnLease_does rfl seq slot gen fun v l _ _ => drive_does rfl seq mask levels v l
  | shed p _ seq slot gen set => exact onOwnLease_does rfl seq slot gen fun v l _ _ => shed_does rfl seq set v l
  | alter p n seq slot gen comp =>
    exact onOwnLease_does rfl seq slot gen fun v l hl hp => alter_does hl hp n seq slot gen comp
  | release p _ seq slot gen =>
    exact onOwnLease_does rfl seq slot gen fun v l hl _ =>
      does_answer rfl (works_trans (works_endQuietly (by rw [hl]; nofun)) (works_pass _ _)) _ _ _
  | releaseAll p _ seq => exact releaseAll_does rfl seq
  | queryLease | listLeases | queryChannel | readHost =>
    simp only [State.perform, State.queryLease, State.listLeases, State.queryChannel, State.readHost]
    split
    · exact does_refuse rfl _ _
    · exact does_answer rfl (works_refl s) _ _ _
  | queryStatus p _ seq => exact does_answer rfl (works_refl s) _ _ _
  | readNotice p _ seq => exact readNotice_does rfl seq
  | clearFault p _ seq channel => exact clearFault_does rfl seq channel
  | setNotices p n seq mask lead => exact setNotices_does s p n seq mask lead
  | setChannel p n seq channel flags breakTime settleTime threshold =>
    exact setChannel_does s p n seq channel flags breakTime settleTime threshold
  | setHost p n seq host quota ceiling rights => exact setHost_does s p n seq host quota ceiling rights
  | revoke p _ seq slot gen => exact revoke_does rfl seq slot gen
  | tableReset p _ seq => exact tableReset_does rfl seq
  | termStep v => exact does_works _ (works_termStep s v)
  | expiry v => exact does_works _ (works_expiryEvent s v)
  | waitStep v => exact does_works _ (works_waitStep s v)
  | waitTimeout v => exact does_works _ (works_timeoutEvent s v)
  | breakEndReserved c => exact does_works _ (works_breakEndReserved s c)
  | breakEndUnreserved c => exact does_works _ (works_breakEndUnreserved s c)
  | breakCountdown c => exact does_works _ (works_breakCountdown s c)
  | settleTimerTick => exact does_works _ (works_settleTick s)
  | sweepVisit => exact .quiet .sweep (works_visit _ _)
  | assertion =>
    unfold State.perform
    dsimp only
    split
    · exact .quiet .assertion (assertInhibit_works s)
    · exact does_nothing s _
  | releaseOfInhibit =>
    unfold State.perform
    dsimp only
    split
    · exact .quiet .release (liftInhibit_works s)
    · exact does_nothing s _

end Sys2Proof.Machine
end

section
/-! PROOFS. Authority, quota and ceiling, and the generations of the slots, through every row and step (R22, R29, R152). -/

namespace Sys2Proof.Machine

/-! ### The live leases of a host -/

theorem liveCount_eq_countP (s : State) (h : HostNo) :
    s.liveCount h = (List.finRange 24).countP fun v => decide (∃ l ∈ s.lease? v, l.holder = h) :=
  List.countP_congr fun v _ => by cases s.lease? v <;> simp

theorem liveCount_eq_card (s : State) (h : HostNo) :
    s.liveCount h = (Finset.univ.filter fun v => ∃ l ∈ s.lease? v, l.holder = h).card := by
  rw [liveCount_eq_countP, List.countP_eq_length_filter,
    ← List.toFinset_card_of_nodup ((List.nodup_finRange 24).filter _), List.toFinset_filter]
  refine congrArg Finset.card (Finset.ext fun v => ?_)
  simp

theorem steps_lease {x y : Slot} (h : x.steps y) {m : Lease} (hm : y.lease = some m) :
    ∃ l, x.lease = some l ∧ l.holder = m.holder ∧ l.priority = m.priority ∧ l.maxWait = m.maxWait := by
  cases h with
  | kept hgen hlease =>
    rw [hm] at hlease
    obtain ⟨l, hl, hc⟩ := Option.map_eq_some_iff.1 hlease.symm
    simp only [Lease.claim, Prod.mk.injEq] at hc
    exact ⟨l, hl, hc⟩
  | freed => cases hm

/-- A lease that is live after the work was live before it, with its claim. -/
theorem stepsTo_lease {s t : State} (h : s.stepsTo t) {v : SlotNo} {m : Lease} (hm : t.lease? v = some m) :
    ∃ l, s.lease? v = some l ∧ l.holder = m.holder ∧ l.priority = m.priority ∧ l.maxWait = m.maxWait :=
  steps_lease (h v) hm

/-- Work admits no lease, and leaves quotas and ceilings (R29). -/
theorem works_quotaLaw {s t : State} (h : s.works t) (hs : s.quotaLaw) : t.quotaLaw := by
  have hceiling (g : HostNo) : (t.host g).ceiling = (s.host g).ceiling :=
    (congrArg HostRecord.ceiling (h.hosts g) :)
  refine ⟨fun g => ?_, fun v m hm => ?_⟩
  · refine le_trans ?_ (le_of_le_of_eq (hs.1 g) (congrArg HostRecord.quota (h.hosts g) :).symm)
    rw [liveCount_eq_card, liveCount_eq_card]
    refine Finset.card_le_card fun v hv => ?_
    simp only [Finset.mem_filter, Finset.mem_univ, true_and] at hv ⊢
    obtain ⟨m, hm, hg⟩ := hv
    obtain ⟨l, hl, hh, -⟩ := stepsTo_lease h.slots hm
    exact ⟨l, hl, hh.trans hg⟩
  · obtain ⟨l, hl, hh, hp, -⟩ := stepsTo_lease h.slots hm
    rw [← hp, hceiling, ← hh]
    exact hs.2 v l hl

theorem works_authorityLaw {s t : State} (h : s.works t) (hs : s.authorityLaw) : t.authorityLaw :=
  hs.imp fun g hg => (congrArg HostRecord.config (h.hosts g) :).trans hg

/-! ### The write of a row keeps the two laws -/

/-- A lease admitted under its host's quota and ceiling (R32, R33). -/
theorem setLease_quotaLaw {s : State} {v : SlotNo} {l : Lease} (hs : s.quotaLaw)
    (hc : l.priority ≤ (s.host l.holder).ceiling) (hq : s.liveCount l.holder < (s.host l.holder).quota) :
    (s.setLease v l).quotaLaw := by
  refine ⟨fun g => ?_, fun u m hm => ?_⟩
  · have hle : (s.setLease v l).liveCount g ≤ s.liveCount g + if l.holder = g then 1 else 0 := by
      rw [liveCount_eq_card, liveCount_eq_card]
      by_cases hg : l.holder = g
      · rw [if_pos hg]
        refine le_trans (Finset.card_le_card fun u hu => ?_) (Finset.card_insert_le v _)
        simp only [Finset.mem_insert, Finset.mem_filter, Finset.mem_univ, true_and, setLease_lease] at hu ⊢
        by_cases huv : u = v
        · exact .inl huv
        · exact .inr (by simpa only [if_neg huv] using hu)
      · rw [if_neg hg, Nat.add_zero]
        refine Finset.card_le_card fun u hu => ?_
        simp only [Finset.mem_filter, Finset.mem_univ, true_and, setLease_lease] at hu ⊢
        split at hu
        · obtain ⟨m, hm, hmg⟩ := hu
          obtain rfl : l = m := Option.some_inj.1 hm
          exact absurd hmg hg
        · exact hu
    change _ ≤ (s.host g).quota
    split at hle
    · rename_i hg
      subst hg
      omega
    · exact le_trans hle (hs.1 g)
  · rw [setLease_lease] at hm
    split at hm
    · obtain rfl : l = m := Option.some_inj.1 hm
      exact hc
    · exact hs.2 u m hm

/-- A live lease whose record is rewritten with the same holder, at or below the ceiling (R82). -/
theorem setLease_same_holder_quotaLaw {s : State} {v : SlotNo} {l m : Lease} (hs : s.quotaLaw) (hl : s.lease? v = some l)
    (hh : m.holder = l.holder) (hc : m.priority ≤ (s.host l.holder).ceiling) : (s.setLease v m).quotaLaw := by
  refine ⟨fun g => le_trans (le_of_eq ?_) (hs.1 g), fun u k hk => ?_⟩
  · rw [liveCount_eq_countP, liveCount_eq_countP]
    refine List.countP_congr fun u _ => ?_
    rw [setLease_lease]
    split
    · rename_i hu
      simp [hu, hl, hh]
    · exact Iff.rfl
  · rw [setLease_lease] at hk
    split at hk
    · obtain rfl : m = k := Option.some_inj.1 hk
      rw [hh]
      exact hc
    · exact hs.2 u k hk

theorem priorityOf_le_of_underCeiling {s : State} {g : HostNo} {c : Priority} (h : s.underCeiling g c = true) {v : SlotNo}
    {l : Lease} (hl : s.lease? v = some l) (hg : l.holder = g) : l.priority ≤ c := by
  have hv := List.all_eq_true.1 h v (mem_slotsOf.2 ⟨l, hl, hg⟩)
  rw [priorityOf_eq hl] at hv
  exact of_decide_eq_true hv

/-- SET_HOST keeps both laws by its checks (R151, R152). -/
theorem authority_laws {s : State} {g : HostNo} {q : Nat} {c : Priority} {config : Bool} (clear : Bool)
    (hs : s.authorityLaw ∧ s.quotaLaw) (hq : s.liveCount g ≤ q) (hc : s.underCeiling g c = true)
    (ha : config = true ∨ s.otherAuthority g = true) :
    (s.modifyHost g fun r => { r with quota := q, ceiling := c, config := config, clear := clear }).authorityLaw ∧
      (s.modifyHost g fun r => { r with quota := q, ceiling := c, config := config, clear := clear }).quotaLaw := by
  refine ⟨?_, fun h => ?_, fun v l hl => ?_⟩
  · rcases ha with rfl | ha
    · exact ⟨g, by rw [modifyHost_host_self]⟩
    · obtain ⟨h, -, hh⟩ := List.any_eq_true.1 ha
      obtain ⟨hne, hconfig⟩ := Bool.and_eq_true_iff.1 hh
      exact ⟨h, by rw [modifyHost_host_ne s (bne_iff_ne.1 hne)]; exact hconfig⟩
  · rw [modifyHost_host]
    split
    · rename_i hg
      exact hg ▸ hq
    · exact hs.2.1 h
  · rw [modifyHost_host]
    split
    · rename_i hg
      exact priorityOf_le_of_underCeiling hc hl hg
    · exact hs.2.2 v l hl

theorem writes_laws {s b : State} {i : Instr} (h : s.writes i b) (hs : s.authorityLaw ∧ s.quotaLaw) :
    b.authorityLaw ∧ b.quotaLaw := by
  cases h with
  | nothing => exact hs
  | admission hv hp hc hq =>
    subst hp
    exact ⟨hs.1, setLease_quotaLaw hs.2 hc hq⟩
  | competition hv hp hc =>
    subst hp
    exact ⟨hs.1, setLease_same_holder_quotaLaw hs.2 hv rfl hc⟩
  | configuration c k => exact hs
  | authority clear hq hc ha => exact authority_laws clear hs hq hc ha
  | @mask p _ _ _ _ m k =>
    obtain ⟨ha, hquota, hceiling⟩ := hs
    have hhost (g : HostNo) : ((s.modifyHost p fun r => { r with mask := m, lead := k }).host g) =
        { s.host g with
          mask := if g = p then m else (s.host g).mask
          lead := if g = p then k else (s.host g).lead } := by
      rw [modifyHost_host]
      split <;> rfl
    exact ⟨ha.imp fun g hg => by rw [hhost]; exact hg, fun g => by rw [hhost]; exact hquota g,
      fun v l hl => by rw [hhost]; exact hceiling v l hl⟩
  | sweep => exact hs
  | assertion => exact hs
  | release => exact hs

/-! ### Authority, quota and ceiling through every step -/

theorem does_laws {s t : State} {i : Instr} (h : s.does i t) (hs : s.authorityLaw ∧ s.quotaLaw) :
    t.authorityLaw ∧ t.quotaLaw := by
  have hworks {b u : State} (hw : s.writes i b) (hu : b.works u) : u.authorityLaw ∧ u.quotaLaw := by
    obtain ⟨ha, hq⟩ := writes_laws hw hs
    exact ⟨works_authorityLaw hu ha, works_quotaLaw hu hq⟩
  cases h with
  | quiet hw ht => exact hworks hw ht
  | answered _ hw ht =>
    have hu := hworks hw ht
    exact hu

theorem laws_of_sameParts {s t : State} (h : s.sameParts t) (hs : s.authorityLaw ∧ s.quotaLaw) :
    t.authorityLaw ∧ t.quotaLaw := by
  have hhost (g : HostNo) : t.host g = s.host g := congrArg (fun x => x.get g) h.hosts
  have hcount (g : HostNo) : t.liveCount g = s.liveCount g := by simp only [State.liveCount, sameParts_lease h]
  refine ⟨hs.1.imp fun g hg => by rw [hhost]; exact hg, fun g => by rw [hhost, hcount]; exact hs.2.1 g, fun v l hl => ?_⟩
  rw [sameParts_lease h] at hl
  rw [hhost]
  exact hs.2.2 v l hl

theorem completeReset_lease (s : State) (v : SlotNo) : s.completeReset.lease? v = none :=
  congrArg Slot.lease (bank_get _ v)

theorem completeReset_host (s : State) (g : HostNo) : s.completeReset.host g = HostRecord.reset g := bank_get _ g

theorem completeReset_laws (s : State) : s.completeReset.authorityLaw ∧ s.completeReset.quotaLaw := by
  refine ⟨⟨0, by rw [completeReset_host]; rfl⟩, fun g => ?_, fun v l hl => ?_⟩
  · have hcount : s.completeReset.liveCount g = 0 := by
      rw [liveCount_eq_countP, List.countP_eq_zero]
      simp [completeReset_lease]
    rw [hcount]
    exact Nat.zero_le _
  · rw [completeReset_lease] at hl
    cases hl

theorem stepsTo_advance (s : State) : s.stepsTo s.advance := fun v => by
  rw [advance_slot]
  refine .kept rfl ?_
  rw [Option.map_map]
  refine congrArg (Option.map · _) (funext fun l => ?_)
  change l.tick.claim = l.claim
  unfold Lease.tick
  split <;> rfl

/-- A millisecond is work on the part, but for the qualification timer. -/
theorem advance_works (s : State) : { s with inhibit := s.inhibit.tick }.works s.advance :=
  ⟨stepsTo_advance s, fun c => by rw [advance_channel]; rfl, fun _ => rfl, rfl, rfl, rfl⟩

/-- Settles O54: the write of each row keeps the laws by its checks, and the work that every row has a share in leaves every host's
standing and admits no lease. -/
theorem authorityLawsKept : Obligations.AuthorityLawsKept := by
  intro s t ha hq h
  refine step_keeps (P := fun s => s.authorityLaw ∧ s.quotaLaw) (Q := fun _ t => t.authorityLaw ∧ t.quotaLaw)
    laws_of_sameParts (fun {s} _ => completeReset_laws s) (fun {s} hs => ?_) (fun i {s} hs => does_laws (perform_does s i) hs) id
    ⟨ha, hq⟩ h
  exact ⟨works_authorityLaw (advance_works s) hs.1, works_quotaLaw (advance_works s) hs.2⟩

/-! ### Generations -/

/-- The generation of the slot stands while its lease lives, or it has advanced by one and the slot is FREE (R22). -/
def Slot.follows (x y : Slot) : Prop :=
  y.gen = x.gen ∧ (x.lease ≠ none → y.lease ≠ none) ∨ y.gen = x.gen + 1 ∧ y.lease = none

theorem follows_refl (x : Slot) : x.follows x := .inl ⟨rfl, id⟩

theorem follows_steps {x y z : Slot} (h : x.follows y) (h' : y.steps z) : x.follows z := by
  cases h' with
  | kept hgen hlease =>
    have hnone : z.lease = none ↔ y.lease = none := by
      rw [← Option.map_eq_none_iff, hlease, Option.map_eq_none_iff]
    rcases h with ⟨hg, hl⟩ | ⟨hg, hl⟩
    · exact .inl ⟨hgen.trans hg, fun hx hz => hl hx (hnone.1 hz)⟩
    · exact .inr ⟨hgen.trans hg, hnone.2 hl⟩
  | freed hy =>
    rcases h with ⟨hg, -⟩ | ⟨-, hl⟩
    · exact .inr ⟨congrArg (· + 1) hg, rfl⟩
    · exact absurd hl hy

theorem setLease_slot (s : State) (v u : SlotNo) (l : Lease) :
    (s.setLease v l).slot u = if u = v then { s.slot u with lease := some l } else s.slot u := bankModify_get _ v u _

theorem writes_follows {s b : State} {i : Instr} (h : s.writes i b) (v : SlotNo) : (s.slot v).follows (b.slot v) := by
  have hset (u : SlotNo) (l : Lease) : (s.slot v).follows ((s.setLease u l).slot v) := by
    rw [setLease_slot]
    split
    · exact .inl ⟨rfl, fun _ => nofun⟩
    · exact follows_refl _
  cases h with
  | admission => exact hset _ _
  | competition => exact hset _ _
  | _ => exact follows_refl _

theorem does_follows {s t : State} {i : Instr} (h : s.does i t) (v : SlotNo) : (s.slot v).follows (t.slot v) := by
  cases h with
  | quiet hw ht => exact follows_steps (writes_follows hw v) (ht.slots v)
  | answered _ hw ht => exact follows_steps (writes_follows hw v) (ht.slots v)

end Sys2Proof.Machine
end

section
/-! PROOFS. Which lines a row moves and what it leaves alone: the rows one by one, from their frames (R43, R117, R137, R142, R147, R153,
R157, R161, R171). -/

namespace Sys2Proof.Machine

/-! ### The lines of a row -/

/-- Row `i` moves lines alone: no bank that the laws read, not the sweep, and no port but its own. Device reset abandons the frames
of all ports (R175). -/
structure State.movesLines (s : State) (i : Instr) (t : State) : Prop where
  parts : s.sameParts t
  sweep : t.sweep = s.sweep
  port : (∀ cause, i ≠ .deviceReset cause) → ∀ q, i.portOf ≠ some q → t.port q = s.port q

theorem movesLines_refl (s : State) (i : Instr) : s.movesLines i s := ⟨sameParts_refl s, rfl, fun _ _ _ => rfl⟩

theorem movesLines_trans {s t u : State} {i : Instr} (h : s.movesLines i t) (h' : t.movesLines i u) : s.movesLines i u :=
  ⟨sameParts_trans h.parts h'.parts, h'.sweep.trans h.sweep, fun hi q hq => (h'.port hi q hq).trans (h.port hi q hq)⟩

theorem movesLines_modifyPort {i : Instr} {p : HostNo} (hp : i.portOf = some p) (s : State) (f : PortRecord → PortRecord) :
    s.movesLines i (s.modifyPort p f) :=
  ⟨sameParts_modifyPort s p f, rfl, fun _ _ hq => modifyPort_port_ne s (fun h => hq (by rw [h, hp])) f⟩

theorem movesLines_setFb (s : State) (i : Instr) (fb : Word) : s.movesLines i (s.setFb fb) :=
  ⟨sameParts_setFb s fb, rfl, fun _ _ _ => rfl⟩

/-- What row `i` can do outside the completion of device reset: move lines, do its work, or do the work of the command `j` that its
frame's bits carry (R168). -/
inductive State.takes (s : State) (i : Instr) : State → Prop
  | lines {t : State} (h : s.movesLines i t) : s.takes i t
  | work {u : State} (h : s.movesLines i u) : s.takes i (syncOutputs u (u.perform i))
  | carried {u : State} {p : HostNo} {bits : List Bool} {j : Instr} {n : Nat} (hi : i = .frameError p bits)
      (hj : j.frame? = some (p, n)) (h : s.movesLines i u) : s.takes i (syncOutputs u (u.perform j))

theorem takes_of_movesLines {s u t : State} {i : Instr} (h : s.movesLines i u) (ht : u.takes i t) : s.takes i t := by
  cases ht with
  | lines h' => exact .lines (movesLines_trans h h')
  | work h' => exact .work (movesLines_trans h h')
  | carried hi hj h' => exact .carried hi hj (movesLines_trans h h')

/-! ### The rows that end a frame -/

theorem portOf_of_frame {i : Instr} {p : HostNo} {n : Nat} (h : i.frame? = some (p, n)) : i.portOf = some p := by
  cases i with
  | frameStart | frameError => cases h
  | _ => exact congrArg (Option.map Prod.fst) h

/-- A command is what its frame makes of its work. -/
theorem exec_of_frame {i : Instr} {p : HostNo} {n : Nat} (h : i.frame? = some (p, n)) (s : State) :
    ∃ payload, exec i s = .next (onFrame p n payload (fun u => u.perform i) (s.setFb (i.fbLines s.fb))) := by
  cases i with
  | noop | request | renew | drive | shed | alter | release | releaseAll | queryLease | listLeases | queryChannel
  | queryStatus | readNotice | clearFault | setNotices | setChannel | setHost | readHost | revoke | tableReset =>
    cases h
    exact ⟨_, rfl⟩
  | _ => cases h

theorem commandOf_frame {p : HostNo} {n : Nat} {fb : Word} {op : Byte} {payload : List Byte} {j : Instr}
    (h : commandOf p n fb op payload = some j) : j.frame? = some (p, n) := by
  unfold commandOf at h
  split at h <;> cases h <;> rfl

theorem frameEnd_moves {i : Instr} {p : HostNo} (hp : i.portOf = some p) (s : State) (n : Nat) {after : State → State}
    (ha : ∀ u : State, u.movesLines i (after u)) : s.movesLines i (frameEnd p n after s) := by
  cases hs : s.listens p with
  | false => exact frameEnd_deaf hs n after ▸ movesLines_modifyPort hp s _
  | true =>
    have hu := movesLines_trans (movesLines_modifyPort hp s (PortRecord.endFrame n)) (ha _)
    rw [frameEnd_listens hs, syncOutputs_of_sameParts hu.parts]
    exact hu

/-- The edge that ends a frame moves lines of its port, and does the work of the command if the frame fits it (R164, R167, R168). -/
theorem onFrame_cases {i : Instr} {p : HostNo} (hp : i.portOf = some p) (n payload : Nat) (body : State → State) (s : State) :
    s.movesLines i (onFrame p n payload body s) ∨
      ∃ u, s.movesLines i u ∧ onFrame p n payload body s = syncOutputs u (body u) := by
  by_cases h0 : n = 0
  · simp only [onFrame, h0, if_true]
    exact .inl (frameEnd_moves hp s 0 fun u => movesLines_refl u i)
  cases hl : lengthError payload n with
  | some kind =>
    simp only [onFrame, h0, hl, if_false]
    exact .inl (frameEnd_moves hp s n fun u => movesLines_modifyPort hp u _)
  | none =>
    cases hs : s.listens p with
    | false => exact .inl (onFrame_deaf hs n payload body ▸ movesLines_modifyPort hp s _)
    | true =>
      have hu := movesLines_trans (movesLines_modifyPort hp s (PortRecord.endFrame n))
        (movesLines_modifyPort hp _ PortRecord.accept)
      refine .inr ⟨_, hu, ?_⟩
      rw [onFrame_fits hs (by simp [clocksFit, hl])]
      exact (syncOutputs_of_channels (sameParts_channel hu.parts)).symm

theorem command_takes {i : Instr} {p : HostNo} {n : Nat} (h : i.frame? = some (p, n)) {s t : State}
    (ht : exec i s = .next t) : s.takes i t := by
  obtain ⟨payload, he⟩ := exec_of_frame h s
  obtain rfl := Host.Outcome.next.inj (ht.symm.trans he)
  have hfb := movesLines_setFb s i (i.fbLines s.fb)
  rcases onFrame_cases (portOf_of_frame h) n payload (fun u => u.perform i) (s.setFb (i.fbLines s.fb)) with hl | ⟨u, hu, he⟩
  · exact .lines (movesLines_trans hfb hl)
  · rw [he]
    exact .work (movesLines_trans hfb hu)

theorem frameError_takes {p : HostNo} {bits : List Bool} {s t : State} (h : execFrameError p bits s = .next t) :
    s.takes (.frameError p bits) t := by
  unfold execFrameError at h
  split at h
  · cases h
    exact .lines (frameEnd_moves rfl s 0 fun u => movesLines_refl u _)
  · cases h
    exact .lines (frameEnd_moves rfl s _ fun u => movesLines_modifyPort rfl u _)
  · rename_i op payload _
    cases hj : commandOf p bits.length s.fb op payload with
    | none =>
      rw [hj] at h
      cases h
      exact .lines (movesLines_refl s _)
    | some j =>
      have hframe := commandOf_frame hj
      rw [hj, ← exec_eq_executeRow (by rw [hframe]; nofun)] at h
      obtain ⟨payload', he⟩ := exec_of_frame hframe s
      obtain rfl := Host.Outcome.next.inj (h.symm.trans he)
      have hfb := movesLines_setFb s (.frameError p bits) (j.fbLines s.fb)
      rcases onFrame_cases (i := .frameError p bits) rfl bits.length payload' (fun u => u.perform j) (s.setFb (j.fbLines s.fb))
        with hl | ⟨u, hu, he⟩
      · exact .lines (movesLines_trans hfb hl)
      · rw [he]
        exact .carried rfl hframe (movesLines_trans hfb hu)

/-! ### Every row -/

theorem frameStart_takes {p : HostNo} {s t : State} (h : execFrameStart p s = .next t) : s.takes (.frameStart p) t := by
  unfold execFrameStart at h
  split at h
  · cases h
    exact .lines (movesLines_refl s _)
  · split at h <;> cases h <;> exact .lines (movesLines_modifyPort rfl s _)

theorem deviceReset_takes {cause : ResetCause} {s t : State} (h : execDeviceReset cause s = .next t) :
    s.takes (.deviceReset cause) t := by
  have hbegin (line : Level) (ms : Nat) : s.takes (.deviceReset cause) (s.beginReset line ms) :=
    .lines ⟨⟨rfl, rfl, rfl, rfl, rfl⟩, rfl, fun hi => absurd rfl (hi cause)⟩
  cases cause with
  | powerOn resetHigh =>
    cases h
    exact hbegin _ _
  | resetLine ns =>
    unfold execDeviceReset at h
    dsimp only at h
    split at h <;> cases h
    · exact hbegin _ _
    · exact .lines (movesLines_refl s _)

theorem event_takes (i : Instr) (s : State) : s.takes i (event (fun u => u.perform i) s) := by
  unfold event
  split
  · exact .lines (movesLines_refl s i)
  · exact .work (movesLines_refl s i)

/-- A row of the table, taken outside the completion of device reset. -/
theorem exec_takes {i : Instr} {s t : State} (hi : i ≠ .resetComplete) (h : exec i s = .next t) : s.takes i t := by
  cases i with
  | frameStart p => exact frameStart_takes h
  | frameError p bits => exact frameError_takes h
  | deviceReset cause => exact deviceReset_takes h
  | resetComplete => exact absurd rfl hi
  | inhibitLineChange level =>
    cases h
    exact .lines ⟨⟨rfl, rfl, rfl, rfl, lineTo_inEffect level s.inhibit⟩, rfl, fun _ _ _ => rfl⟩
  | termStep v => cases h; exact event_takes (.termStep v) s
  | expiry v => cases h; exact event_takes (.expiry v) s
  | waitStep v => cases h; exact event_takes (.waitStep v) s
  | waitTimeout v => cases h; exact event_takes (.waitTimeout v) s
  | breakEndReserved c => cases h; exact event_takes (.breakEndReserved c) s
  | breakEndUnreserved c => cases h; exact event_takes (.breakEndUnreserved c) s
  | breakCountdown c => cases h; exact event_takes (.breakCountdown c) s
  | assertion => cases h; exact event_takes .assertion s
  | releaseOfInhibit => cases h; exact event_takes .releaseOfInhibit s
  | settleTimerTick => cases h; exact event_takes .settleTimerTick s
  | sweepVisit fb =>
    cases h
    exact takes_of_movesLines (movesLines_setFb s _ fb) (event_takes (.sweepVisit fb) (s.setFb fb))
  | noop | request | renew | drive | shed | alter | release | releaseAll | queryLease | listLeases | queryChannel
  | queryStatus | readNotice | clearFault | setNotices | setChannel | setHost | readHost | revoke | tableReset =>
    exact command_takes rfl h

/-- Settles O59: a row leaves the slots, or does the work of a row on them. -/
theorem generationAdvancesOnFree : Obligations.GenerationAdvancesOnFree := by
  intro i s t v hi h
  have hf : (s.slot v).follows (t.slot v) := by
    cases exec_takes hi h with
    | lines hm => exact sameParts_slot hm.parts v ▸ follows_refl _
    | work hm => exact sameParts_slot hm.parts v ▸ does_follows (perform_does _ _) v
    | carried _ _ hm => exact sameParts_slot hm.parts v ▸ does_follows (perform_does _ _) v
  have hne : (s.slot v).gen ≠ (s.slot v).gen + 1 := fun h => by bv_omega
  rcases hf with ⟨hg, hl⟩ | ⟨hg, hl⟩
  · refine ⟨.inl hg, fun hs => ⟨fun ht => absurd ht (hl hs), fun h => absurd (hg.symm.trans h) hne⟩⟩
  · exact ⟨.inr ⟨hg, hl⟩, fun _ => ⟨fun _ => hg, fun _ => hl⟩⟩

/-! ### What a row leaves alone -/

/-- What row `i`, if it is no FRAME_ERROR, leaves alone from `s` to `t`: what is not its own. -/
structure State.leavesAlone (s : State) (i : Instr) (t : State) : Prop where
  port : (∀ cause, i ≠ .deviceReset cause) → ∀ q, i.portOf ≠ some q → t.port q = s.port q
  config : (∀ p n seq c a b d e, i ≠ .setChannel p n seq c a b d e) → ∀ c, (t.channel c).config = (s.channel c).config
  authority : (∀ p n seq a b c d, i ≠ .setHost p n seq a b c d) → ∀ h, (t.host h).quota = (s.host h).quota ∧
    (t.host h).ceiling = (s.host h).ceiling ∧ (t.host h).config = (s.host h).config ∧ (t.host h).clear = (s.host h).clear
  mask : (∀ p n seq mask lead, i ≠ .setNotices p n seq mask lead) →
    ∀ h, (t.host h).mask = (s.host h).mask ∧ (t.host h).lead = (s.host h).lead
  sweep : (∀ fb, i ≠ .sweepVisit fb) → t.sweep = s.sweep
  inEffect : i ≠ .assertion → i ≠ .releaseOfInhibit → t.inhibit.inEffect = s.inhibit.inEffect

theorem leavesAlone_trans {s t u : State} {i : Instr} (h : s.leavesAlone i t) (h' : t.leavesAlone i u) : s.leavesAlone i u where
  port hi q hq := (h'.port hi q hq).trans (h.port hi q hq)
  config hi c := (h'.config hi c).trans (h.config hi c)
  authority hi g := by
    obtain ⟨h1, h2, h3, h4⟩ := h.authority hi g
    obtain ⟨h1', h2', h3', h4'⟩ := h'.authority hi g
    exact ⟨h1'.trans h1, h2'.trans h2, h3'.trans h3, h4'.trans h4⟩
  mask hi g := ⟨(h'.mask hi g).1.trans (h.mask hi g).1, (h'.mask hi g).2.trans (h.mask hi g).2⟩
  sweep hi := (h'.sweep hi).trans (h.sweep hi)
  inEffect ha hr := (h'.inEffect ha hr).trans (h.inEffect ha hr)

theorem leavesAlone_of_works {s t : State} (i : Instr) (h : s.works t) : s.leavesAlone i t where
  port _ q _ := congrArg (fun x => x.get q) h.ports
  config _ := h.config
  authority _ g := ⟨(congrArg HostRecord.quota (h.hosts g) :), (congrArg HostRecord.ceiling (h.hosts g) :),
    (congrArg HostRecord.config (h.hosts g) :), (congrArg HostRecord.clear (h.hosts g) :)⟩
  mask _ g := ⟨(congrArg HostRecord.mask (h.hosts g) :), (congrArg HostRecord.lead (h.hosts g) :)⟩
  sweep _ := h.sweep
  inEffect _ _ := h.inEffect

theorem leavesAlone_of_banks {s t : State} {i : Instr} (hc : t.channels = s.channels) (hh : t.hosts = s.hosts)
    (hp : t.ports = s.ports) (hs : (∀ fb, i ≠ .sweepVisit fb) → t.sweep = s.sweep)
    (hi : i ≠ .assertion → i ≠ .releaseOfInhibit → t.inhibit.inEffect = s.inhibit.inEffect) : s.leavesAlone i t := by
  have hhost (g : HostNo) : t.host g = s.host g := congrArg (fun x => x.get g) hh
  exact ⟨fun _ q _ => congrArg (fun x => x.get q) hp, fun _ c => congrArg (fun x => (x.get c).config) hc,
    fun _ g => by rw [hhost]; exact ⟨rfl, rfl, rfl, rfl⟩, fun _ g => by rw [hhost]; exact ⟨rfl, rfl⟩, hs, hi⟩

theorem leavesAlone_of_writes {s b : State} {i : Instr} (h : s.writes i b) : s.leavesAlone i b := by
  cases h with
  | nothing => exact leavesAlone_of_banks rfl rfl rfl (fun _ => rfl) fun _ _ => rfl
  | admission => exact leavesAlone_of_banks rfl rfl rfl (fun _ => rfl) fun _ _ => rfl
  | competition => exact leavesAlone_of_banks rfl rfl rfl (fun _ => rfl) fun _ _ => rfl
  | configuration =>
    exact ⟨fun _ _ _ => rfl, fun hi => absurd rfl (hi _ _ _ _ _ _ _ _), fun _ _ => ⟨rfl, rfl, rfl, rfl⟩,
      fun _ _ => ⟨rfl, rfl⟩, fun _ => rfl, fun _ _ => rfl⟩
  | authority =>
    refine ⟨fun _ _ _ => rfl, fun _ _ => rfl, fun hi => absurd rfl (hi _ _ _ _ _ _ _), fun _ g => ?_, fun _ => rfl,
      fun _ _ => rfl⟩
    rw [modifyHost_host]
    split <;> exact ⟨rfl, rfl⟩
  | mask =>
    refine ⟨fun _ _ _ => rfl, fun _ _ => rfl, fun _ g => ?_, fun hi => absurd rfl (hi _ _ _ _ _), fun _ => rfl,
      fun _ _ => rfl⟩
    rw [modifyHost_host]
    split <;> exact ⟨rfl, rfl, rfl, rfl⟩
  | sweep => exact leavesAlone_of_banks rfl rfl rfl (fun hi => absurd rfl (hi _)) fun _ _ => rfl
  | assertion => exact leavesAlone_of_banks rfl rfl rfl (fun _ => rfl) fun ha _ => absurd rfl ha
  | release => exact leavesAlone_of_banks rfl rfl rfl (fun _ => rfl) fun _ hr => absurd rfl hr

theorem leavesAlone_answer {i : Instr} {p : HostNo} (hp : i.portOf = some p) (s : State) (seq : Byte) (r : Result)
    (fields : List Byte) : s.leavesAlone i (s.answer p seq r fields) :=
  ⟨fun _ q hq => answer_port_ne s (fun h => hq (by rw [h, hp])) seq r fields, fun _ _ => rfl, fun _ _ => ⟨rfl, rfl, rfl, rfl⟩,
    fun _ _ => ⟨rfl, rfl⟩, fun _ => rfl, fun _ _ => rfl⟩

theorem leavesAlone_of_does {s t : State} {i : Instr} (h : s.does i t) : s.leavesAlone i t := by
  cases h with
  | quiet hw ht => exact leavesAlone_trans (leavesAlone_of_writes hw) (leavesAlone_of_works i ht)
  | answered hp hw ht =>
    exact leavesAlone_trans (leavesAlone_trans (leavesAlone_of_writes hw) (leavesAlone_of_works i ht))
      (leavesAlone_answer hp _ _ _ _)

/-- The end of an event changes no configuration and nothing outside the channels. -/
theorem leavesAlone_syncOutputs {u t : State} {i : Instr} (h : u.leavesAlone i t) : u.leavesAlone i (syncOutputs u t) :=
  ⟨h.port, fun hi c => by rw [syncOutputs_channel_config]; exact h.config hi c, h.authority, h.mask, h.sweep, h.inEffect⟩

theorem leavesAlone_perform (u : State) (i : Instr) : u.leavesAlone i (syncOutputs u (u.perform i)) :=
  leavesAlone_syncOutputs (leavesAlone_of_does (perform_does u i))

theorem leavesAlone_of_movesLines {s t : State} {i : Instr} (h : s.movesLines i t) : s.leavesAlone i t := by
  have hb := leavesAlone_of_banks (s := s) (t := { t with ports := s.ports }) (i := i) h.parts.channels h.parts.hosts rfl
    (fun _ => h.sweep) fun _ _ => h.parts.inEffect
  exact ⟨h.port, hb.config, hb.authority, hb.mask, hb.sweep, hb.inEffect⟩

/-- Settles O60: a row that moves lines leaves all but its port alone; the command of a FRAME_ERROR's bits has its port, and is
neither a visit nor a change of inhibit. -/
theorem ownRowsAlone : Obligations.OwnRowsAlone := by
  intro i s t hi h
  cases exec_takes hi h with
  | lines hm =>
    have ha := leavesAlone_of_movesLines hm
    exact ⟨fun p hp hd => ha.port hd p hp, fun _ => ⟨ha.config, ha.authority, ha.mask⟩, ha.sweep, ha.inEffect⟩
  | work hm =>
    have ha := leavesAlone_trans (leavesAlone_of_movesLines hm) (leavesAlone_perform _ i)
    exact ⟨fun p hp hd => ha.port hd p hp, fun _ => ⟨ha.config, ha.authority, ha.mask⟩, ha.sweep, ha.inEffect⟩
  | @carried u p bits j n hf hj hm =>
    subst hf
    have hu := leavesAlone_of_movesLines hm
    have ha := leavesAlone_perform u j
    have hcommand (k : Instr) (hk : k.frame? = none) : j ≠ k := fun h => by
      rw [h, hk] at hj
      cases hj
    exact ⟨fun q hq hd => (ha.port (fun _ => hcommand _ rfl) q (by rw [portOf_of_frame hj]; exact hq)).trans (hu.port hd q hq),
      fun hne => absurd rfl (hne p bits),
      fun hs => (ha.sweep fun _ => hcommand _ rfl).trans (hu.sweep hs),
      fun hon hoff => (ha.inEffect (hcommand _ rfl) (hcommand _ rfl)).trans (hu.inEffect hon hoff)⟩

end Sys2Proof.Machine
end

section
/-! PROOFS. The handle's checks, and the commands and timed events that end leases (R23, R24, R37 to R39, R66, R67, R84 to R87, R93,
R98). -/

namespace Sys2Proof.Machine

/-! ### A command in its frame -/

section frame
variable {s : State} {p : HostNo} {n payload : Nat} (hl : s.listens p = true) (hf : clocksFit payload n = true)
include hl hf

/-- A command in its frame, when its body takes the part to `t` and answers. -/
theorem onFrame_of_answer {body : State → State} {t : State} {seq : Byte} {r : Result} {fields : List Byte}
    (hb : body (s.framed p n) = (t.framed p n).answer p seq r fields) :
    onFrame p n payload body s = (syncOutputs s t).replied p seq r fields := by
  rw [onFrame_framed hl hf, hb, syncOutputs_framed_answer]

/-- A command in its frame, when its body does nothing but answer (R67). -/
theorem onFrame_of_reply {body : State → State} {seq : Byte} {r : Result} {fields : List Byte}
    (hb : body (s.framed p n) = (s.framed p n).answer p seq r fields) :
    onFrame p n payload body s = s.replied p seq r fields := by
  rw [onFrame_of_answer hl hf (t := s) hb, syncOutputs_self]

/-! ### The handle's checks -/

/-- A handle that names no live lease is stale (R23, R24). -/
theorem onFrame_stale {slot gen : Byte} (hn : s.named slot gen = none) (seq : Byte) (body : State → SlotNo → Lease → State) :
    onFrame p n payload (fun u => u.onOwnLease p seq slot gen (body u)) s = s.replied p seq .staleHandle [] := by
  refine onFrame_of_reply hl hf ?_
  have hn' : (s.framed p n).named slot gen = none := hn
  simp only [State.onOwnLease, hn', State.refuse]

/-- A lease of another host is not the requester's (R66). -/
theorem onFrame_notYours {slot gen : Byte} {v : SlotNo} {l : Lease} (hn : s.names slot gen v l) (hp : l.holder ≠ p)
    (seq : Byte) (body : State → SlotNo → Lease → State) :
    onFrame p n payload (fun u => u.onOwnLease p seq slot gen (body u)) s = s.replied p seq .notYours [] := by
  refine onFrame_of_reply hl hf ?_
  have hn' : (s.framed p n).named slot gen = some (v, l) := named_of_names hn
  simp only [State.onOwnLease, hn', if_neg hp, State.refuse]

/-- A lease of the requesting host, when the body of its command takes the part to `t` and answers. -/
theorem onFrame_own {slot gen : Byte} {v : SlotNo} {l : Lease} (hn : s.names slot gen v l) (hp : l.holder = p)
    {seq : Byte} {body : State → SlotNo → Lease → State} {t : State} {r : Result} {fields : List Byte}
    (hb : body (s.framed p n) v l = (t.framed p n).answer p seq r fields) :
    onFrame p n payload (fun u => u.onOwnLease p seq slot gen (body u)) s = (syncOutputs s t).replied p seq r fields :=
  onFrame_of_answer hl hf ((onOwnLease_of_names (s := s.framed p n) (seq := seq) hn hp _).trans hb)

end frame

theorem slotField_eq_some {b : Byte} {v : SlotNo} (h : slotField b = some v) : b.toNat = v.val := by
  unfold slotField at h
  split at h <;> cases h
  rfl

theorem named_eq_none {s : State} {slot gen : Byte} (h : ∀ v l, ¬ s.names slot gen v l) : s.named slot gen = none := by
  unfold State.named
  split
  · rfl
  · rename_i v hv
    split
    · rfl
    · rename_i l hl
      exact if_neg fun hgen => h v l ⟨slotField_eq_some hv, hl, hgen⟩

/-- Settles O15: by the handle, the holder, and for REVOKE the right of the requester. -/
theorem handleChecked : Obligations.HandleChecked := by
  intro p n seq slot gen comp a b s hl
  refine ⟨fun hn => ?_, fun v l hn hp => ?_, fun hf hc => congrArg Host.Outcome.next (onFrame_of_reply hl hf (if_pos hc))⟩
  · have hnone := named_eq_none hn
    have hnone' : (s.framed p n).named slot gen = none := hnone
    have stale {k : Nat} (hf : clocksFit k n = true) (body : State → SlotNo → Lease → State) :=
      congrArg (Host.Outcome.next (φ := Fault) (ρ := Refusal)) (onFrame_stale hl hf hnone seq body)
    refine ⟨fun hf => stale hf _, fun hf => stale hf _, fun hf => stale hf _, fun hf => stale hf _, fun hf => stale hf _,
      fun hf => congrArg Host.Outcome.next (onFrame_of_reply hl hf ?_),
      fun hf hc => congrArg Host.Outcome.next (onFrame_of_reply hl hf ?_)⟩
    · simp only [State.queryLease, hnone', State.refuse]
    · have hc' : ¬((s.framed p n).host p).config = false := by
        rw [Bool.not_eq_false]
        exact hc
      simp only [State.revoke, hnone', if_neg hc', State.refuse]
  · have notYours {k : Nat} (hf : clocksFit k n = true) (body : State → SlotNo → Lease → State) :=
      congrArg (Host.Outcome.next (φ := Fault) (ρ := Refusal)) (onFrame_notYours hl hf hn hp seq body)
    exact ⟨fun hf => notYours hf _, fun hf => notYours hf _, fun hf => notYours hf _, fun hf => notYours hf _,
      fun hf => notYours hf _⟩

/-! ### RELEASE, RELEASE_ALL and REVOKE -/

/-- Settles O21: the lease-end procedure and the pass neither read nor change the port. -/
theorem releaseEndsLease : Obligations.ReleaseEndsLease := by
  intro p n seq slot gen v l s hl hf hn hp
  refine congrArg Host.Outcome.next (onFrame_own hl hf hn hp ?_)
  rw [endQuietly_eq (s := s.framed p n) hn.2.1, ← pass_framed]
  rfl

/-- Settles O23: the check of the right, the handle, and the lease-end procedure with its notice. -/
theorem revokeEndsLease : Obligations.RevokeEndsLease := by
  intro p n seq slot gen v l s hl hf hc hn
  refine congrArg Host.Outcome.next (onFrame_of_answer hl hf ?_)
  have hc' : ¬((s.framed p n).host p).config = false := by
    rw [Bool.not_eq_false]
    exact hc
  have hn' : (s.framed p n).named slot gen = some (v, l) := named_of_names hn
  unfold State.revoke
  rw [if_neg hc', hn']
  dsimp only
  rw [endLease_eq (s := s.framed p n) hn.2.1, ← pass_framed]
  rfl

theorem slotsOf_length (s : State) (p : HostNo) : (s.slotsOf p).length = s.liveCount p := by
  rw [State.slotsOf, ← List.countP_eq_length_filter]
  rfl

/-- Settles O22: the leases that end one after the other end together, and then the pass runs. -/
theorem releaseAllEndsEveryLease : Obligations.ReleaseAllEndsEveryLease := by
  intro p n seq s hl hf u
  have hu : s.withoutAll (s.slotsOf p) = u := by
    refine state_ext (fun c => ?_) (fun v => ?_) ?_ (fun _ => rfl) (fun _ => rfl) rfl rfl rfl rfl rfl rfl
    · rw [withoutAll_channel, show u.channel c = _ from bank_get _ c]
      refine if_congr (exists_congr fun v => ?_) rfl rfl
      rw [mem_slotsOf]
      cases s.lease? v <;> simp
    · rw [withoutAll_slot, show u.slot v = _ from bank_get _ v]
      exact if_congr mem_slotsOf rfl rfl
    · refine List.filter_congr fun v _ => decide_eq_decide.2 (not_congr ?_)
      rw [mem_slotsOf]
      cases s.lease? v <;> simp
  refine congrArg Host.Outcome.next (onFrame_of_answer hl hf ?_)
  rw [releaseAll_eq, ← slotsOf_length, ← hu, ← pass_framed]
  rfl

/-! ### The last step of a term or a wait -/

theorem termStep_last {s : State} {v : SlotNo} {l : Lease} (hl : s.lease? v = some l) (hd : l.termStepDue = true)
    (hr : l.remaining = 1) : s.termStep v = s.expire v l ∧ s.expiryEvent v = s.expire v l := by
  simp [State.termStep, State.expiryEvent, hl, hd, hr]

theorem waitStep_last {s : State} {v : SlotNo} {l : Lease} (hl : s.lease? v = some l) (hd : l.waitStepDue = true)
    (hr : l.waitRemaining = 1) : s.waitStep v = s.timeOut v l ∧ s.timeoutEvent v = s.timeOut v l := by
  simp [State.waitStep, State.timeoutEvent, hl, hd, hr]

/-- Settles O33: either row of a pair meets the last step, and the lease ends with the notice of its cause. -/
theorem lastStepEndsLease : Obligations.LastStepEndsLease := by
  intro v l i s hr hl hms
  refine ⟨fun hi hx hrem => ?_, fun hi hx hrem => ?_⟩
  · obtain ⟨hterm, hexpiry⟩ := termStep_last hl ((termStepDue_iff l).2 ⟨hx, hms⟩) hrem
    have he : s.expire v l = ((s.withoutLease v l).notify l.holder (.expired (s.handle v) l.tag)).pass none := by
      rw [State.expire, endLease_eq hl]
    rw [← he]
    rcases hi with rfl | rfl
    · exact congrArg Host.Outcome.next ((event_of_running hr _).trans (by rw [hterm]))
    · exact congrArg Host.Outcome.next ((event_of_running hr _).trans (by rw [hexpiry]))
  · obtain ⟨hwait, htimeout⟩ := waitStep_last hl ((waitStepDue_iff l).2 ⟨hx, hms⟩) hrem
    have he : s.timeOut v l = ((s.withoutLease v l).notify l.holder (.waitTimeout (s.handle v) l.tag)).pass none := by
      rw [State.timeOut, endLease_eq hl]
    rw [← he]
    rcases hi with rfl | rfl
    · exact congrArg Host.Outcome.next ((event_of_running hr _).trans (by rw [hwait]))
    · exact congrArg Host.Outcome.next ((event_of_running hr _).trans (by rw [htimeout]))

end Sys2Proof.Machine
end

section
/-! PROOFS. The lease queries, and the laws of the device at reset (R29, R40 to R42, R44, R107, R123, R138, R150, R152, R179). -/

namespace Sys2Proof.Machine

/-! ### QUERY_LEASE -/

theorem competitionByte_eq_sum (l : Lease) : competitionByte l =
    byteOf (32 * l.priority.val + (if l.preemptible then 16 else 0) + (if l.requeue then 8 else 0)) := by
  have key : ∀ (pr : Priority) (preemptible requeue : Bool),
      (BitVec.ofFin (w := 3) pr) ++ (BitVec.ofBool preemptible) ++ (BitVec.ofBool requeue) ++ (0 : BitVec 3) =
        byteOf (32 * pr.val + (if preemptible then 16 else 0) + (if requeue then 8 else 0)) := by decide
  exact key l.priority l.preemptible l.requeue

theorem recordFlags_eq_sum (l : Lease) : flagsByte l.warned l.commanded.isSome false false false false =
    byteOf ((if l.warned then 1 else 0) + (if l.commanded = none then 0 else 2)) := by
  rw [flagsByte_eq_sum]
  cases l.commanded <;> rfl

/-! ### LIST_LEASES -/

theorem slotField_eq_none {b : Byte} (h : 24 ≤ b.toNat) : slotField b = none := dif_neg (Nat.not_lt.2 h)

theorem slotField_of_lt {b : Byte} (h : b.toNat < 24) : slotField b = some ⟨b.toNat, h⟩ := dif_pos h

theorem linkedTo_iff (s : State) (p : HostNo) (ch : Channel) :
    s.linkedTo p ch = true ↔ ∃ v ∈ ch.state.link, ∃ l ∈ s.lease? v, l.holder = p := by
  unfold State.linkedTo
  cases ch.state.link with
  | none => simp
  | some v => cases hl : s.lease? v <;> simp [hl]

/-- The listed leases of a host, from a slot on, in slot order (R41). -/
theorem slotsOf_from (s : State) (p : HostNo) (start : SlotNo) : (s.slotsOf p).filter (start ≤ ·) =
    (List.finRange 24).filter fun v => decide (start.val ≤ v.val ∧ ∃ l ∈ s.lease? v, l.holder = p) := by
  rw [State.slotsOf, List.filter_filter]
  refine List.filter_congr fun v _ => ?_
  rw [Bool.eq_iff_iff, Bool.and_eq_true, decide_eq_true_iff, decide_eq_true_iff, Fin.le_def]
  refine and_congr_right fun _ => ?_
  cases s.lease? v <;> simp

theorem moreFlag_eq (q : Prop) [Decidable q] :
    flagsByte (decide q) false false false false false = if q then 1 else 0 := by
  by_cases h : q <;> simp only [h, decide_true, decide_false, if_true, if_false] <;> rfl

theorem held_and_isRearm (x : ChannelState) : ((x.isDriven || x.isRearm) && x.isRearm) = x.isRearm := by
  cases x <;> rfl

/-- Settles O24: each field of the two layouts against the record. -/
theorem leaseQueriesReport : Obligations.LeaseQueriesReport := by
  refine ⟨fun p n seq slot gen v l s hl hf hn => ?_, fun p n seq start s hl hf => ⟨fun hs => ?_, ?_⟩⟩
  · have hn' : (s.framed p n).named slot gen = some (v, l) := named_of_names hn
    refine congrArg Host.Outcome.next (onFrame_of_reply hl hf ?_)
    simp only [State.queryLease, hn', State.leaseFields, competitionByte_eq_sum, recordFlags_eq_sum]
    rw [← hn.2.2]
    rfl
  · refine congrArg Host.Outcome.next (onFrame_of_reply hl hf ?_)
    simp only [State.listLeases, slotField_eq_none hs, State.refuse]
  · intro hs listed ours held
    have hlisted : ((s.framed p n).slotsOf p).filter (⟨start.toNat, hs⟩ ≤ ·) = listed := slotsOf_from s p ⟨start.toNat, hs⟩
    have hours (c : ChannelNo) : (s.framed p n).linkedTo p (s.channel c) = decide (ours c) := by
      rw [Bool.eq_iff_iff, decide_eq_true_iff]
      exact linkedTo_iff s p (s.channel c)
    have hown : (s.framed p n).channelsThat ((s.framed p n).ownedBy p) = setOf fun c => decide (ours c) && held c :=
      congrArg setOf (funext fun c => congrArg (· && held c) (hours c))
    have hreserved : (s.framed p n).channelsThat ((s.framed p n).reservedFor p) = setOf fun c => decide (ours c) && !held c :=
      congrArg setOf (funext fun c => congrArg (· && !held c) (hours c))
    have hrearm : ((s.framed p n).channelsThat fun ch => (s.framed p n).ownedBy p ch && ch.state.isRearm) =
        setOf fun c => decide (ours c) && (s.channel c).state.isRearm :=
      congrArg setOf (funext fun c => (congrArg (· && held c && (s.channel c).state.isRearm) (hours c)).trans
        (by rw [Bool.and_assoc, held_and_isRearm]))
    refine congrArg Host.Outcome.next (onFrame_of_reply hl hf ?_)
    simp only [State.listLeases, slotField_of_lt hs]
    refine congrArg ((s.framed p n).answer p seq .ok) ?_
    simp only [State.listFields, hlisted, moreFlag_eq, List.length_take]
    rw [hown, hreserved, hrearm]
    rfl

/-! ### The laws at reset -/

theorem reset_lease (v : SlotNo) : State.reset.lease? v = none := congrArg Slot.lease (bank_get _ v)

theorem reset_channel (c : ChannelNo) : State.reset.channel c = Channel.reset := bank_get _ c

theorem reset_host (g : HostNo) : State.reset.host g = HostRecord.reset g := bank_get _ g

/-- Settles O52: at reset no lease is live, no channel is linked, and every host holds the one POWER_ON notice. -/
theorem lawsAtReset : Obligations.LawsAtReset := by
  have hlawful : State.reset.lawful := lawful_of_no_lease reset_lease rfl fun c => by rw [reset_channel]; rfl
  have hchannel (c : ChannelNo) : (State.reset.channel c).law := by rw [reset_channel]; decide
  have hcount (g : HostNo) : State.reset.liveCount g = 0 := by
    rw [liveCount_eq_countP, List.countP_eq_zero]
    simp [reset_lease]
  refine ⟨fun g => ?_, ⟨0, by rw [reset_host]; rfl⟩, ⟨fun g => by rw [hcount]; exact Nat.zero_le _, fun v l hl => ?_⟩,
    fun hi => ?_, hlawful.table, hlawful.record, hchannel, fun c _ => by rw [reset_channel]; rfl, fun front w back hq => ?_⟩
  · have hn : (State.reset.host g).notices = [.powerOn] := by rw [reset_host]; rfl
    rw [hn]
    decide
  · rw [reset_lease] at hl
    cases hl
  · cases hi
  · exact absurd hq.symm (List.append_ne_nil_of_right_ne_nil front (List.cons_ne_nil w back))

end Sys2Proof.Machine
end

section
/-! PROOFS. REQUEST against other leases: its refusals, its admission, and a lease that is not grantable where it enters the queue
(R30 to R36, R45, R48, R49, R59, R60). -/

namespace Sys2Proof.Machine

/-! ### The refusals -/

theorem request_badValue {s : State} {comp : Byte} {term maxWait : Word}
    (h : term = 0 ∨ 6000 < term.toNat ∨ 6000 < maxWait.toNat ∨ comp &&& 0x07 ≠ 0) (p : HostNo) (seq : Byte)
    (set levels tag : Word) : s.request p seq set levels comp term maxWait tag = s.refuse p seq .badValue := by
  unfold State.request
  split
  · rename_i pr preemptible requeue t w hcomp hterm hwait
    obtain ⟨rfl, ht⟩ := stepsField_eq_some hterm
    obtain ⟨rfl, hw⟩ := stepsField_eq_some hwait
    have hlow : comp &&& 0x07 = 0 := by
      unfold competitionField at hcomp
      split at hcomp <;> cases hcomp
      exact (lowBits_eq_zero comp).1 ‹_›
    rcases h with rfl | h | h | h
    · exact if_pos rfl
    · omega
    · omega
    · exact absurd hlow h
  · rfl

theorem lowestFree_eq_none {s : State} (h : ∀ v, s.lease? v ≠ none) : s.lowestFree = none :=
  List.find?_eq_none.2 fun v _ => by simpa [Option.isNone_iff_eq_none] using h v

/-- The first check that fails is the answer (R30 to R34). -/
theorem request_of_refused {s : State} {p : HostNo} {set : Word} {comp : Byte} {term maxWait : Word} {r : Result}
    (h : s.requestCheck p set comp term maxWait = some r) (seq : Byte) (levels tag : Word) :
    s.request p seq set levels comp term maxWait tag = s.refuse p seq r := by
  unfold State.requestCheck at h
  split at h
  · cases h
    exact request_badValue ‹_› p seq set levels tag
  rename_i hfields
  simp only [not_or, not_lt, not_not] at hfields
  obtain ⟨hterm, hterm', hwait, hcomp⟩ := hfields
  have hfield : competitionField comp = some ((comp.extractLsb' 5 3).toFin, comp.getLsbD 4, comp.getLsbD 3) :=
    if_pos ((lowBits_eq_zero comp).2 hcomp)
  have hterm0 : ¬term.toNat = 0 := fun h0 => hterm (BitVec.eq_of_toNat_eq h0)
  have hleasable : s.allLeasable set = false ↔ ∃ c, inSet set c = true ∧ (s.channel c).config.leasable = false := by
    rw [← Bool.not_eq_true, allLeasable_iff]
    simp
  unfold State.request
  rw [hfield, stepsField_of_le hterm', stepsField_of_le hwait]
  dsimp only
  rw [if_neg hterm0]
  split at h
  · cases h
    rename_i hset
    exact if_pos (hset.imp_right hleasable.2)
  rename_i hset
  rw [if_neg fun hs => hset (hs.imp_right hleasable.1)]
  split at h
  · cases h
    exact if_pos ‹_›
  rw [if_neg ‹_›]
  split at h
  · cases h
    exact if_pos ‹_›
  rw [if_neg ‹_›]
  split at h <;> cases h
  rw [lowestFree_eq_none ‹_›]

/-- Settles O10: by the first check that fails. -/
theorem requestRefused : Obligations.RequestRefused := by
  intro p n seq set levels comp term maxWait tag r s hl hf hcheck
  exact congrArg Host.Outcome.next (onFrame_of_reply hl hf (request_of_refused (s := s.framed p n) hcheck seq levels tag))

/-! ### The admission -/

/-- The outcome of a REQUEST whose lease still waits after its pass (R60). -/
theorem requestOutcome_of_waiting {s : State} {v : SlotNo} {l : Lease} (hl : s.lease? v = some l) (hw : l.state = .waiting)
    (p : HostNo) (seq : Byte) (h : Handle) :
    s.requestOutcome p seq v h = if l.maxWait ≠ 0 then s.answer p seq .queued (h.bytes ++ [byteOf (s.queuePosition v)])
      else ((s.dequeue v).freeSlot v).answer p seq .busy (h.bytes ++ [0]) := by
  simp only [State.requestOutcome, hl, hw]

theorem dequeue_freeSlot (s : State) (v : SlotNo) : (s.dequeue v).freeSlot v = { s with
    slots := bankModify s.slots v fun x => { gen := x.gen + 1, lease := none }
    waitQueue := s.waitQueue.filter (· ≠ v) } := by
  have hq : (s.waitQueue.filter (· != v)) = s.waitQueue.filter (· ≠ v) :=
    List.filter_congr fun u _ => by rw [Bool.eq_iff_iff, bne_iff_ne, decide_eq_true_iff]
  unfold State.freeSlot State.modifySlot State.dequeue State.setQueue
  rw [hq]

/-- A REQUEST in its frame, when its pass has ended in `t` with its lease waiting (R59, R60). -/
theorem request_exec_waiting {s t : State} {p : HostNo} {n : Nat} {seq : Byte} {set levels : Word} {comp : Byte}
    {term maxWait tag : Word} {v : SlotNo} {l : Lease} (hl : s.listens p = true) (hf : clocksFit 12 n = true)
    (hc : s.requestCheck p set comp term maxWait = none) (hv : s.isLowestFree v)
    (ht : s.enterRequest v (requestRecord p set levels comp term maxWait tag) = t) (hlease : t.lease? v = some l)
    (hw : l.state = .waiting) :
    exec (.request p n seq set levels comp term maxWait tag) s = .next (if l.maxWait ≠ 0 then
        (syncOutputs s t).replied p seq .queued [byteOf v.val, (s.slot v).gen, byteOf (t.queuePosition v)]
      else (syncOutputs s ((t.dequeue v).freeSlot v)).replied p seq .busy [byteOf v.val, (s.slot v).gen, 0]) := by
  have hlease' : (t.framed p n).lease? v = some l := hlease
  have hrequest := (request_of_check (s := s.framed p n) hc hv seq levels tag).trans
    (by rw [enterRequest_framed, ht, requestOutcome_of_waiting hlease' hw])
  refine congrArg Host.Outcome.next ?_
  split at hrequest
  · rw [if_pos ‹_›]
    exact onFrame_of_answer hl hf hrequest
  · rw [if_neg ‹_›]
    exact onFrame_of_answer hl hf hrequest

theorem requestRecord_maxWait (p : HostNo) (set levels : Word) (comp : Byte) (term maxWait tag : Word) :
    (requestRecord p set levels comp term maxWait tag).maxWait ≠ 0 ↔ maxWait ≠ 0 :=
  not_congr ⟨fun h => BitVec.eq_of_toNat_eq h, congrArg BitVec.toNat⟩

/-- Settles O11: by the state of the lease after its pass; no pass changes its max wait. -/
theorem requestAdmitted : Obligations.RequestAdmitted := by
  intro p n seq set levels comp term maxWait tag v m s hl hf hcheck hv l u w handle hm
  have he : s.enterRequest v l = w := rfl
  by_cases hw : m.state = .waiting
  · obtain ⟨k, hk, -, -, hwait⟩ := stepsTo_lease (stepsTo_pass _ (some v)) hm
    obtain rfl : l = k := Option.some_inj.1 ((setLease_lease_self s v l).symm.trans hk)
    have hmax : m.maxWait ≠ 0 ↔ maxWait ≠ 0 := by
      rw [← hwait]
      exact requestRecord_maxWait p set levels comp term maxWait tag
    have hheld : ¬(m.state = .held ∨ m.state = .suspended) := by rw [hw]; nofun
    have hgranting : ¬m.state = .granting := by rw [hw]; nofun
    rw [request_exec_waiting hl hf hcheck hv he hm hw, dequeue_freeSlot, if_neg hheld, if_neg hgranting]
    exact congrArg Host.Outcome.next (if_congr hmax rfl rfl)
  · rw [request_exec hl hf hcheck hv he hm hw]
    refine congrArg Host.Outcome.next ?_
    cases hx : m.state with
    | waiting => exact absurd hx hw
    | granting => rfl
    | held => rfl
    | suspended => rfl

/-! ### A lease that is not grantable where it enters -/

theorem grantable_iff {s : State} {ahead : List SlotNo} {w : SlotNo} {l : Lease} (hl : s.lease? w = some l) :
    s.grantable ahead w = true ↔ (∀ c, inSet l.set c = true → s.channelPasses l.priority c = true) ∧
      ∀ u ∈ ahead, ∀ m, s.lease? u = some m → overlaps m.set l.set = false := by
  have hqueue : s.queuePasses ahead l.set = true ↔ ∀ u ∈ ahead, ∀ m, s.lease? u = some m → overlaps m.set l.set = false := by
    unfold State.queuePasses
    rw [List.all_eq_true]
    refine forall₂_congr fun u _ => ?_
    cases s.lease? u <;> simp
  have hset : ((List.finRange 16).all fun c => !inSet l.set c || s.channelPasses l.priority c) = true ↔
      ∀ c, inSet l.set c = true → s.channelPasses l.priority c = true := by
    rw [List.all_eq_true]
    refine forall_congr' fun c => ?_
    cases inSet l.set c <;> simp
  unfold State.grantable
  rw [hl]
  dsimp only
  rw [Bool.and_eq_true, hset, hqueue]

/-- The part with the lease `l` in slot `v` at its place in the wait queue (R36, R45). -/
def State.joinedBy (s : State) (v : SlotNo) (l : Lease) : State :=
  { s.setLease v l with waitQueue := s.joined s.waitQueue v l.priority }

theorem takeWhile_congr {α : Type} {f g : α → Bool} {q : List α} (h : ∀ x ∈ q, f x = g x) :
    q.takeWhile f = q.takeWhile g ∧ q.dropWhile f = q.dropWhile g := by
  induction q with
  | nil => exact ⟨rfl, rfl⟩
  | cons x q ih =>
    obtain ⟨ht, hd⟩ := ih fun y hy => h y (.tail x hy)
    rw [List.takeWhile_cons, List.takeWhile_cons, List.dropWhile_cons, List.dropWhile_cons, h x (.head q), ht, hd]
    exact ⟨rfl, rfl⟩

/-- In a queue in order, an entry of at least the priority `pr` stands ahead of where `pr` joins (R44, R45). -/
theorem mem_takeWhile_of_le {s : State} {q : List SlotNo} (h : q.Pairwise fun a b => s.priorityOf b ≤ s.priorityOf a)
    {u : SlotNo} (hu : u ∈ q) {pr : Priority} (hp : pr ≤ s.priorityOf u) :
    u ∈ q.takeWhile fun x => decide (pr ≤ s.priorityOf x) := by
  induction q with
  | nil => cases hu
  | cons x q ih =>
    obtain ⟨hx, hq⟩ := List.pairwise_cons.1 h
    rcases List.mem_cons.1 hu with rfl | hu
    · rw [List.takeWhile_cons, if_pos (decide_eq_true hp)]
      exact .head _
    · rw [List.takeWhile_cons, if_pos (decide_eq_true (le_trans hp (hx u hu)))]
      exact .tail _ (ih hq hu)

section waits
variable {s : State} {v : SlotNo} {l : Lease} (h : s.tableLaw) (hv : s.lease? v = none)
include h hv

theorem not_mem_queue_of_free : v ∉ s.waitQueue := fun hq => by
  obtain ⟨m, hm, -⟩ := waiting_of_mem_queue h hq
  rw [hv] at hm
  cases hm

theorem link_ne_of_free (c : ChannelNo) : (s.channel c).state.link ≠ some v := fun hc => by
  obtain ⟨m, hm, -⟩ := h.2.1 c v hc
  rw [hv] at hm
  cases hm

/-- Where a lease enters the queue is settled by the leases that wait. -/
theorem enterRequest_eq_pass : s.enterRequest v l = (s.joinedBy v l).pass (some v) := by
  have hq : ∀ u ∈ s.waitQueue, decide (l.priority ≤ (s.setLease v l).priorityOf u) = decide (l.priority ≤ s.priorityOf u) :=
    fun u hu => by
      rw [priorityOf_of_lease (s := s) (by rw [setLease_lease, if_neg (ne_of_mem_of_not_mem hu (not_mem_queue_of_free h hv))])]
  obtain ⟨ht, hd⟩ := takeWhile_congr hq
  refine congrArg (State.pass · (some v)) ?_
  change (s.setLease v l).enqueueBack v l.priority = s.joinedBy v l
  unfold State.enqueueBack State.joinedBy State.joined
  rw [← ht, ← hd]
  rfl

/-- The entry of a lease makes no other lease grantable: its channels are no freer, and more leases stand ahead (R48, R49). -/
theorem grantable_of_joinedBy {ahead ahead' : List SlotNo} {w : SlotNo} (hw : w ≠ v) (ha : ∀ u ∈ ahead', u ≠ v ∧ u ∈ ahead)
    (hg : (s.joinedBy v l).grantable ahead w = true) : s.grantable ahead' w = true := by
  have hlease : ∀ u, u ≠ v → (s.joinedBy v l).lease? u = s.lease? u := fun u hu =>
    (setLease_lease s v u l).trans (if_neg hu)
  cases hm : s.lease? w with
  | none =>
    simp only [State.grantable, hlease w hw, hm] at hg
    cases hg
  | some m =>
    rw [grantable_iff ((hlease w hw).trans hm)] at hg
    obtain ⟨hpass, hahead⟩ := hg
    rw [grantable_iff hm]
    refine ⟨fun c hc => ?_, fun u hu k hk => ?_⟩
    · have hp := hpass c hc
      have hchannel : (s.joinedBy v l).channel c = s.channel c := rfl
      unfold State.channelPasses at hp ⊢
      rw [hchannel] at hp
      cases hx : (s.channel c).state.link with
      | none => simpa [hx] using hp
      | some u =>
        have hu : u ≠ v := fun hu => link_ne_of_free h hv c (hu ▸ hx)
        simpa only [hx, State.yields, hlease u hu] using hp
    · obtain ⟨huv, hu⟩ := ha u hu
      exact hahead u hu k ((hlease u huv).trans hk)

/-- A lease that is not grantable where it enters a settled queue leaves the queue settled. -/
theorem joinedBy_settled (hs : s.settled)
    (hn : (s.joinedBy v l).grantable (s.waitQueue.takeWhile fun u => l.priority ≤ s.priorityOf u) v = false) :
    (s.joinedBy v l).settled := by
  intro front w back hq
  have hsplit := List.takeWhile_append_dropWhile (p := fun u => decide (l.priority ≤ s.priorityOf u)) (l := s.waitQueue)
  have hv' := not_mem_queue_of_free h hv
  change s.waitQueue.takeWhile (fun u => l.priority ≤ s.priorityOf u) ++ v ::
    s.waitQueue.dropWhile (fun u => l.priority ≤ s.priorityOf u) = front ++ w :: back at hq
  generalize s.waitQueue.takeWhile (fun u => l.priority ≤ s.priorityOf u) = first at hq hn hsplit
  generalize s.waitQueue.dropWhile (fun u => l.priority ≤ s.priorityOf u) = last at hq hsplit
  rw [← Bool.not_eq_true]
  intro hg
  have other {f b : List SlotNo} (hf : s.waitQueue = f ++ w :: b) (ha : ∀ u ∈ f, u ∈ front) : False := by
    have hmem : ∀ {u}, u ∈ f ++ w :: b → u ≠ v := fun hu => ne_of_mem_of_not_mem (hf ▸ hu) hv'
    have := grantable_of_joinedBy h hv (hmem (by simp)) (fun u hu => ⟨hmem (List.mem_append_left _ hu), ha u hu⟩) hg
    rw [hs f w b hf] at this
    cases this
  rcases List.append_eq_append_iff.1 hq with ⟨mid, hfront, hlast⟩ | ⟨mid, hfirst, hback⟩
  · cases mid with
    | nil =>
      obtain ⟨rfl, -⟩ := List.cons.inj hlast
      rw [hfront, List.append_nil, hn] at hg
      cases hg
    | cons x mid =>
      rw [List.cons_append] at hlast
      obtain ⟨-, hlast⟩ := List.cons.inj hlast
      refine other (f := first ++ mid) (b := back) (by rw [← hsplit, hlast, List.append_assoc]) fun u hu => ?_
      rw [hfront]
      rcases List.mem_append.1 hu with hu | hu
      · exact List.mem_append_left _ hu
      · exact List.mem_append_right _ (.tail x hu)
  · cases mid with
    | nil =>
      obtain ⟨rfl, -⟩ := List.cons.inj hback
      rw [List.append_nil] at hfirst
      rw [← hfirst, hn] at hg
      cases hg
    | cons x mid =>
      obtain ⟨rfl, -⟩ := List.cons.inj hback
      exact other (f := front) (b := mid ++ last) (by rw [← hsplit, hfirst, List.append_assoc, List.cons_append])
        fun u hu => hu

/-- What bars a lease where it enters: a channel of its set that no fault, lockout or owner yields, or a lease of its priority or
above that waits for one of its channels (R48, R49). -/
theorem not_grantable_of_barred
    (hb : (∃ c, inSet l.set c = true ∧
        ((s.channel c).state = .lockedOut ∨
          ((s.channel c).fault.state = .faulted ∧ (s.channel c).config.policy = .revoke) ∨
          ∃ u m, (s.channel c).state.link = some u ∧ s.lease? u = some m ∧
            (m.preemptible = false ∨ l.priority ≤ m.priority))) ∨
      ∃ u m, u ∈ s.waitQueue ∧ s.lease? u = some m ∧ l.priority ≤ m.priority ∧ overlaps m.set l.set = true) :
    (s.joinedBy v l).grantable (s.waitQueue.takeWhile fun u => l.priority ≤ s.priorityOf u) v = false := by
  have hself : (s.joinedBy v l).lease? v = some l := setLease_lease_self s v l
  have hother {u : SlotNo} {m : Lease} (hu : s.lease? u = some m) : (s.joinedBy v l).lease? u = some m := by
    refine (setLease_lease s v u l).trans ((if_neg ?_).trans hu)
    rintro rfl
    rw [hv] at hu
    cases hu
  rw [← Bool.not_eq_true]
  intro hg
  rcases hb with ⟨c, hc, hbar⟩ | ⟨u, m, hu, hm, hpr, hset⟩
  · have ha : (s.channel c).available = true := available_of_grantable hself hg hc
    rcases hbar with hx | ⟨hfault, hpolicy⟩ | ⟨u, m, hlink, hm, hyield⟩
    · exact not_lockedOut_of_available ha hx
    · simp [Channel.available, hfault, hpolicy] at ha
    · have hy := yields_of_grantable hself hg hc (v := u) hlink
      simp only [State.yields, hother hm, Bool.and_eq_true, decide_eq_true_iff] at hy
      rcases hyield with hpre | hpr
      · rw [hpre] at hy
        cases hy.1
      · exact absurd hy.2 (not_lt.2 hpr)
  · have hfront := mem_takeWhile_of_le h.1.2.2 hu (pr := l.priority) (by rw [priorityOf_eq hm]; exact hpr)
    rw [((grantable_iff hself).1 hg).2 u hfront m (hother hm)] at hset
    cases hset

omit h hv in
theorem joinedBy_waitQueue : (s.joinedBy v l).waitQueue = s.waitQueue.takeWhile (fun u => l.priority ≤ s.priorityOf u) ++ v ::
    s.waitQueue.dropWhile (fun u => l.priority ≤ s.priorityOf u) := rfl

theorem joinedBy_queuePosition : (s.joinedBy v l).queuePosition v =
    (s.waitQueue.takeWhile fun u => l.priority ≤ s.priorityOf u).length + 1 := by
  have hv' : v ∉ s.waitQueue.takeWhile fun u => decide (l.priority ≤ s.priorityOf u) := fun hu =>
    not_mem_queue_of_free h hv ((List.takeWhile_sublist _).subset hu)
  unfold State.queuePosition
  rw [joinedBy_waitQueue, if_pos (by simp), List.idxOf_append_of_notMem hv', List.idxOf_cons_self, Nat.add_zero]

/-- A lease that leaves the queue and the table again leaves nothing but its generation behind (R22, R60). -/
theorem joinedBy_dequeue_freeSlot : ((s.joinedBy v l).dequeue v).freeSlot v =
    { s with slots := bankModify s.slots v fun x => { gen := x.gen + 1, lease := none } } := by
  have hslots : bankModify (s.joinedBy v l).slots v (fun x => { gen := x.gen + 1, lease := none }) =
      bankModify s.slots v fun x => { gen := x.gen + 1, lease := none } := bank_ext fun u => by
    rw [bankModify_get, bankModify_get]
    change (if u = v then { gen := ((s.setLease v l).slot u).gen + 1, lease := none } else (s.setLease v l).slot u) = _
    rw [setLease_slot]
    split <;> rfl
  have hqueue : (s.joinedBy v l).waitQueue.filter (· ≠ v) = s.waitQueue := by
    have hne : ∀ u ∈ s.waitQueue, decide (u ≠ v) = true := fun u hu =>
      decide_eq_true (ne_of_mem_of_not_mem hu (not_mem_queue_of_free h hv))
    rw [joinedBy_waitQueue, List.filter_append, List.filter_cons_of_neg (by simp), ← List.filter_append,
      List.takeWhile_append_dropWhile, List.filter_eq_self.2 hne]
  rw [dequeue_freeSlot, hslots, hqueue]
  rfl

end waits

/-- Settles O14: the queue is settled with the new lease in it, so its pass changes nothing. -/
theorem requestKeptWaiting : Obligations.RequestKeptWaiting := by
  intro p n seq set levels comp term maxWait tag v s hl hf hcheck hv ht hs l hb
  have he : s.enterRequest v l = s.joinedBy v l :=
    (enterRequest_eq_pass ht hv.1).trans (passFrom_of_settled (joinedBy_settled ht hv.1 hs (not_grantable_of_barred ht hv.1 hb))
      (some v) _ _)
  have hlease : (s.joinedBy v l).lease? v = some l := setLease_lease_self s v l
  rw [request_exec_waiting hl hf hcheck hv he hlease rfl, joinedBy_queuePosition ht hv.1, joinedBy_dequeue_freeSlot ht hv.1]
  have hmax := requestRecord_maxWait p set levels comp term maxWait tag
  refine congrArg Host.Outcome.next ?_
  by_cases h0 : maxWait = 0
  · rw [if_neg fun h => hmax.1 h h0, if_pos h0]
    exact congrArg (State.replied · p seq .busy _) (syncOutputs_of_output fun _ => rfl)
  · rw [if_pos (hmax.2 h0), if_neg h0]
    exact congrArg (State.replied · p seq .queued _) (syncOutputs_of_output (t := s.joinedBy v l) fun _ => rfl)

end Sys2Proof.Machine
end

section
/-! PROOFS. The end of an arbitration pass: it leaves no entry grantable (R50), and a lease that it has granted is no victim of
its later grants, so that the lease of a REQUEST outlives its own pass (R51, R53, R54, R59). -/

namespace Sys2Proof.Machine

/-! ### No entry is left grantable -/

/-- None of the first `i` entries of the wait queue is grantable where it stands: a pass that has come to entry `i`. -/
def State.settledTo (s : State) (i : Nat) : Prop :=
  ∀ front w back, s.waitQueue = front ++ w :: back → front.length < i → s.grantable front w = false

theorem settledTo_zero (s : State) : s.settledTo 0 := fun _ _ _ _ hlt => absurd hlt (Nat.not_lt_zero _)

/-- A pass that has come to the end of the queue has settled it. -/
theorem settled_of_settledTo {s : State} {i : Nat} (h : s.settledTo i) (hi : s.waitQueue[i]? = none) : s.settled :=
  fun front w back hq => by
    refine h front w back hq ?_
    have hlen := congrArg List.length hq
    rw [List.length_append, List.length_cons] at hlen
    have := List.getElem?_eq_none_iff.1 hi
    omega

/-- An entry that is not grantable is passed over. -/
theorem settledTo_skip {s : State} {i : Nat} {w : SlotNo} (h : s.settledTo i) (hi : s.waitQueue[i]? = some w)
    (hg : s.grantable (s.waitQueue.take i) w = false) : s.settledTo (i + 1) := fun front u back hq hlt => by
  rcases Nat.lt_succ_iff_lt_or_eq.1 hlt with hlt | rfl
  · exact h front u back hq hlt
  · rw [hq, List.getElem?_append_right le_rfl, Nat.sub_self, List.getElem?_cons_zero] at hi
    cases hi
    rwa [hq, List.take_left] at hg

/-- A grant makes no entry ahead of the winner grantable. -/
theorem settledTo_grant {s : State} {i : Nat} {w : SlotNo} (h : s.tableLaw) (hi : s.waitQueue[i]? = some w)
    (hg : s.grantable (s.waitQueue.take i) w = true) (own : Option SlotNo) (hs : s.settledTo i) :
    (s.grant own w).settledTo i := fun front u back hq hlt => by
  obtain ⟨l, hl, hw⟩ := waiting_of_mem_queue h (List.mem_of_getElem? hi)
  obtain ⟨rest, hr, -⟩ := grant_queue h (queue_split hi) hl hw hg own
  have hlen : (s.waitQueue.take i).length = i := List.length_take_of_le (List.getElem?_eq_some_iff.1 hi).1.le
  obtain ⟨b, hf⟩ : ∃ b, s.waitQueue.take i = front ++ u :: b := by
    rcases List.append_eq_append_iff.1 (hr.symm.trans hq) with ⟨mid, hfront, -⟩ | ⟨mid, htake, hback⟩
    · have := congrArg List.length hfront
      rw [List.length_append] at this
      omega
    · cases mid with
      | nil =>
        rw [htake, List.append_nil] at hlen
        omega
      | cons x mid =>
        obtain ⟨rfl, -⟩ := List.cons.inj hback
        exact ⟨mid, htake⟩
  have hold : s.grantable front u = false := by
    refine hs front u (b ++ w :: s.waitQueue.drop (i + 1)) ?_ hlt
    rw [← List.cons_append, ← List.append_assoc, ← hf]
    exact queue_split hi
  rw [← Bool.not_eq_true] at hold ⊢
  exact fun hu => hold (grantable_of_grant h (queue_split hi) hl hw hg own hf hu)

/-- A pass with fuel for every slot in reach leaves the queue settled (R50). -/
theorem passFrom_settled (own : Option SlotNo) {fuel i : Nat} {s : State} (h : s.tableLaw) (hs : s.settledTo i)
    (hf : (s.inReach i).card ≤ fuel) : (State.passFrom own fuel i s).settled := by
  induction fuel generalizing i s with
  | zero =>
    cases hi : s.waitQueue[i]? with
    | none => exact settled_of_settledTo hs hi
    | some w => exact absurd (Finset.card_lt_card (inReach_skip h hi)) (by omega)
  | succ fuel ih =>
    cases hi : s.waitQueue[i]? with
    | none => exact (passFrom_past hi own _).symm ▸ settled_of_settledTo hs hi
    | some w =>
      cases hg : s.grantable (s.waitQueue.take i) w with
      | false =>
        have hreach := Finset.card_lt_card (inReach_skip h hi)
        rw [passFrom_skip hi hg]
        exact ih h (settledTo_skip hs hi hg) (by omega)
      | true =>
        obtain ⟨l, hl, hw⟩ := waiting_of_mem_queue h (List.mem_of_getElem? hi)
        have hreach := Finset.card_lt_card (inReach_grant h hi hg own)
        rw [passFrom_grant hi hg]
        exact ih (grant_tableLaw h hl hw hg own) (settledTo_grant h hi hg own hs) (by omega)

/-- A pass leaves no waiting lease grantable where it stands (R50). -/
theorem pass_settled {s : State} (h : s.tableLaw) (own : Option SlotNo) : (s.pass own).settled :=
  passFrom_settled own h (settledTo_zero s) ((inReach_card_le s 0).trans (Nat.le_add_left _ _))

/-! ### A lease that the pass has granted stands -/

/-- The lease of slot `v` no longer waits, and the entries from the `i`-th on, which a pass has yet to examine, have no priority
above its own: none of them can pre-empt it (R48). -/
def State.outranks (s : State) (v : SlotNo) (i : Nat) : Prop :=
  ∃ m, s.lease? v = some m ∧ m.state ≠ .waiting ∧ ∀ u ∈ s.waitQueue.drop i, s.priorityOf u ≤ m.priority

theorem outranks_skip {s : State} {v : SlotNo} {i : Nat} (h : s.outranks v i) : s.outranks v (i + 1) := by
  obtain ⟨m, hm, hw, hp⟩ := h
  refine ⟨m, hm, hw, fun u hu => hp u ?_⟩
  rw [← List.drop_drop] at hu
  exact List.mem_of_mem_drop hu

section granted
variable {s : State} {i : Nat} {w : SlotNo} {l : Lease} (h : s.tableLaw) (hi : s.waitQueue[i]? = some w)
  (hl : s.lease? w = some l) (hg : s.grantable (s.waitQueue.take i) w = true) (own : Option SlotNo)
include h hi hl hg

/-- What stands behind after a grant has no priority above the winner's: it stood behind it, or is its victim (R44, R48). -/
theorem grant_drop_priority {u : SlotNo} (hu : u ∈ (s.grant own w).waitQueue.drop i) :
    (s.grant own w).priorityOf u ≤ l.priority := by
  obtain ⟨l', hl', hw⟩ := waiting_of_mem_queue h (List.mem_of_getElem? hi)
  obtain rfl : l = l' := Option.some_inj.1 (hl.symm.trans hl')
  obtain ⟨rest, hr, -, hmem⟩ := grant_queue h (queue_split hi) hl hw hg own
  have hlen : (s.waitQueue.take i).length = i := List.length_take_of_le (List.getElem?_eq_some_iff.1 hi).1.le
  have hrest : u ∈ rest := by
    rwa [hr, List.drop_append_of_le_length hlen.ge, List.drop_of_length_le hlen.le, List.nil_append] at hu
  obtain ⟨m, hm, -⟩ := waiting_of_mem_queue (grant_tableLaw h hl hw hg own) (List.mem_of_mem_drop hu)
  rw [grant_priorityOf h hl hw hg own hm]
  rcases hmem u hrest with hb | hv
  · exact priority_le_of_back h (queue_split hi) hl hb
  · obtain ⟨k, hk, -, -, hp⟩ := victim_of_grantable h hl hg hv
    exact priorityOf_eq hk ▸ hp.le

/-- The winner of a grant outranks what stands behind it. -/
theorem grant_outranks_self : (s.grant own w).outranks w i := by
  obtain ⟨l', hl', hw⟩ := waiting_of_mem_queue h (List.mem_of_getElem? hi)
  obtain rfl : l = l' := Option.some_inj.1 (hl.symm.trans hl')
  obtain ⟨m, hm, hmw, hp⟩ := grant_lease_self h hl hw hg own
  exact ⟨m, hm, hmw, fun u hu => hp ▸ grant_drop_priority h hi hl hg own hu⟩

/-- A lease that outranks the entry that is granted is no victim of it, and outranks what stands behind it. -/
theorem grant_outranks {v : SlotNo} (hv : s.outranks v i) : (s.grant own w).outranks v i := by
  obtain ⟨l', hl', hw⟩ := waiting_of_mem_queue h (List.mem_of_getElem? hi)
  obtain rfl : l = l' := Option.some_inj.1 (hl.symm.trans hl')
  obtain ⟨m, hm, hmw, hp⟩ := hv
  have hwp : l.priority ≤ m.priority := by
    rw [← priorityOf_eq hl]
    refine hp w ?_
    obtain ⟨hlt, rfl⟩ := List.getElem?_eq_some_iff.1 hi
    rw [List.drop_eq_getElem_cons hlt]
    exact .head _
  have hvw : v ≠ w := by
    rintro rfl
    exact hmw ((Option.some_inj.1 (hm.symm.trans hl)) ▸ hw)
  have hvv : v ∉ s.victims l.set := fun hx => by
    obtain ⟨k, hk, -, -, hlt⟩ := victim_of_grantable h hl hg hx
    obtain rfl : m = k := Option.some_inj.1 (hm.symm.trans hk)
    exact absurd hwp (not_le.2 hlt)
  exact ⟨m, (grant_lease_eq h hl hw hg own hvw hvv).trans hm, hmw,
    fun u hu => (grant_drop_priority h hi hl hg own hu).trans hwp⟩

end granted

/-- What holds of the part and of the entry that its pass examines next, and is kept when the entry is passed over and when it is
granted, holds at the end of the pass. -/
theorem passFrom_keeps {P : State → Nat → Prop} (own : Option SlotNo) (hskip : ∀ {s i}, P s i → P s (i + 1))
    (hgrant : ∀ {s i w l}, s.tableLaw → s.waitQueue[i]? = some w → s.lease? w = some l →
      s.grantable (s.waitQueue.take i) w = true → P s i → P (s.grant own w) i)
    {fuel i : Nat} {s : State} (h : s.tableLaw) (hp : P s i) : ∃ j, P (State.passFrom own fuel i s) j := by
  induction fuel generalizing i s with
  | zero => exact ⟨i, hp⟩
  | succ fuel ih =>
    cases hi : s.waitQueue[i]? with
    | none => exact (passFrom_past hi own _).symm ▸ ⟨i, hp⟩
    | some w =>
      cases hg : s.grantable (s.waitQueue.take i) w with
      | false => exact (passFrom_skip hi hg own fuel).symm ▸ ih h (hskip hp)
      | true =>
        obtain ⟨l, hl, hw⟩ := waiting_of_mem_queue h (List.mem_of_getElem? hi)
        rw [passFrom_grant hi hg]
        exact ih (grant_tableLaw h hl hw hg own) (hgrant h hi hl hg hp)

/-- A lease that outranks what a pass has yet to examine is live and granted at the end of the pass. -/
theorem passFrom_outranks (own : Option SlotNo) {fuel i : Nat} {s : State} {v : SlotNo} (h : s.tableLaw)
    (hv : s.outranks v i) : ∃ m, (State.passFrom own fuel i s).lease? v = some m ∧ m.state ≠ .waiting := by
  obtain ⟨_, m, hm, hw, -⟩ := passFrom_keeps (P := fun s i => s.outranks v i) own outranks_skip
    (fun h hi hl hg hv => grant_outranks h hi hl hg own hv) (fuel := fuel) h hv
  exact ⟨m, hm, hw⟩

/-- A lease that waits goes on waiting when another is granted, and outranks what stands behind when it is granted itself. -/
theorem grant_waits_or_outranks {s : State} {i : Nat} {w : SlotNo} {l : Lease} (h : s.tableLaw)
    (hi : s.waitQueue[i]? = some w) (hl : s.lease? w = some l) (hg : s.grantable (s.waitQueue.take i) w = true)
    (own : Option SlotNo) {v : SlotNo} {m : Lease} (hm : s.lease? v = some m) (hw : m.state = .waiting) :
    (s.grant own w).lease? v = some m ∨ (s.grant own w).outranks v i := by
  by_cases hvw : v = w
  · exact .inr (hvw ▸ grant_outranks_self h hi hl hg own)
  · obtain ⟨l', hl', hlw⟩ := waiting_of_mem_queue h (List.mem_of_getElem? hi)
    obtain rfl : l = l' := Option.some_inj.1 (hl.symm.trans hl')
    have hv : v ∈ s.waitQueue := (h.1.2.1 v).2 ⟨m, hm, hw⟩
    exact .inl ((grant_lease_eq h hl hlw hg own hvw (front_not_victim h hl hg hv)).trans hm)

/-- A waiting lease is live at the end of a pass: it waits on, or is granted and then no victim (R51, R59). -/
theorem pass_live (own : Option SlotNo) {s : State} {v : SlotNo} (h : s.tableLaw) {m : Lease} (hm : s.lease? v = some m)
    (hw : m.state = .waiting) : (s.pass own).lease? v ≠ none := by
  have hend := passFrom_keeps (P := fun s i => s.lease? v = some m ∨ s.outranks v i) own (fun hp => hp.imp_right outranks_skip)
    (fun h hi hl hg hp => hp.elim (fun hm => grant_waits_or_outranks h hi hl hg own hm hw)
      fun hv => .inr (grant_outranks h hi hl hg own hv)) (fuel := s.waitQueue.length + 24) (i := 0) h (.inl hm)
  rw [Option.ne_none_iff_exists']
  rcases hend with ⟨_, hm | ⟨m, hm, -⟩⟩ <;> exact ⟨m, hm⟩

/-! ### The pass of a REQUEST -/

/-- Settles O12: the lease waits when its pass begins. -/
theorem requestOutlivesPass : Obligations.RequestOutlivesPass := by
  intro p set levels comp term maxWait tag v s h hv l u
  have hlaw : ({ u with waitQueue := u.joined s.waitQueue v l.priority } : State).tableLaw := tableLaw_enter h hv rfl
  exact pass_live (some v) hlaw (setLease_lease_self s v l) rfl

section request
variable {s : State} {v : SlotNo} {l : Lease} (h : s.tableLaw) (hv : s.lease? v = none) (hw : l.state = .waiting)
include h hv hw

theorem joinedBy_tableLaw : (s.joinedBy v l).tableLaw := by
  have hself : (s.joinedBy v l).lease? v = some l := setLease_lease_self s v l
  have hne : ∀ u, u ≠ v → (s.joinedBy v l).lease? u = s.lease? u := fun u hu => (setLease_lease s v u l).trans (if_neg hu)
  have hqueue : (s.joinedBy v l).queueLaw :=
    queueLaw_of_insert (queueApart_of_queueLaw h.1 (by simp [hv])) rfl hne hself hw (fun u _ hp => of_decide_eq_true hp)
      fun u _ hp => (not_le.1 (of_decide_eq_false hp)).le
  exact tableLaw_iff.2 (lawApart_restore_waiting (v := v) (lawApart_local (lawApart_of_tableLaw h _) hqueue
    (fun u hu => hne u fun huv => hu (.inl huv)) id fun c => .inl rfl) (fun c => link_ne_of_free h hv c) hself hw)

/-- The pass of a REQUEST on a settled part grants its lease, or does nothing at all: ahead of the lease nothing is grantable, and
behind it the queue condition is no weaker than before (R49, R50). -/
theorem enterRequest_cases (hs : s.settled) :
    (∃ m, (s.enterRequest v l).lease? v = some m ∧ m.state ≠ .waiting) ∨ s.enterRequest v l = s.joinedBy v l := by
  rw [enterRequest_eq_pass h hv]
  cases hg : (s.joinedBy v l).grantable (s.waitQueue.takeWhile fun u => l.priority ≤ s.priorityOf u) v with
  | false => exact .inr (passFrom_of_settled (joinedBy_settled h hv hs hg) (some v) _ _)
  | true =>
    left
    have hlaw := joinedBy_tableLaw h hv hw
    have hq := joinedBy_waitQueue (s := s) (v := v) (l := l)
    have hsplit := List.takeWhile_append_dropWhile (p := fun u => decide (l.priority ≤ s.priorityOf u)) (l := s.waitQueue)
    generalize s.waitQueue.takeWhile (fun u => decide (l.priority ≤ s.priorityOf u)) = first at hg hq hsplit
    generalize s.waitQueue.dropWhile (fun u => decide (l.priority ≤ s.priorityOf u)) = last at hq hsplit
    have hi : (s.joinedBy v l).waitQueue[first.length]? = some v := by rw [hq]; simp
    have hg' : (s.joinedBy v l).grantable ((s.joinedBy v l).waitQueue.take first.length) v = true := by
      rw [hq, List.take_left]
      exact hg
    have hl : (s.joinedBy v l).lease? v = some l := setLease_lease_self s v l
    have hahead : ∀ f u b, first = f ++ u :: b → (s.joinedBy v l).grantable f u = false := fun f u b hf => by
      have hqf : s.waitQueue = f ++ u :: (b ++ last) := by rw [← hsplit, hf, List.append_assoc, List.cons_append]
      have hne : ∀ {x}, x ∈ f ++ u :: (b ++ last) → x ≠ v := fun hx =>
        ne_of_mem_of_not_mem (hqf ▸ hx) (not_mem_queue_of_free h hv)
      rw [← Bool.not_eq_true]
      intro hu
      have := grantable_of_joinedBy h hv (hne (by simp)) (fun x hx => ⟨hne (List.mem_append_left _ hx), hx⟩) hu
      rw [hs f u _ hqf] at this
      cases this
    have hpass : (s.joinedBy v l).pass (some v) =
        State.passFrom (some v) (last.length + 24) first.length ((s.joinedBy v l).grant (some v) v) := by
      rw [State.pass, show (s.joinedBy v l).waitQueue.length + 24 = (last.length + 25) + first.length by
        rw [hq, List.length_append, List.length_cons]; omega, passFrom_over hq hahead, passFrom_grant hi hg']
    rw [hpass]
    exact passFrom_outranks (some v) (grant_tableLaw hlaw hl hw hg' (some v)) (grant_outranks_self hlaw hi hl hg' (some v))

end request

end Sys2Proof.Machine
end

section
/-! PROOFS. When a waiting lease is grantable, and the rows that make none grantable (R48, R49, R52). -/

namespace Sys2Proof.Machine

/-! ### When a lease is grantable -/

theorem available_iff (ch : Channel) : ch.available = true ↔ ch.config.leasable = true ∧ ch.state ≠ .lockedOut ∧
    ¬(ch.fault.state = .faulted ∧ ch.config.policy = .revoke) := by
  unfold Channel.available
  rw [Bool.and_eq_true, Bool.and_eq_true, bne_iff_ne, Bool.not_eq_true', ← Bool.not_eq_true, Bool.and_eq_true, beq_iff_eq,
    beq_iff_eq, and_assoc]

theorem yields_iff (s : State) (v : SlotNo) (pr : Priority) :
    s.yields v pr = true ↔ ∃ m, s.lease? v = some m ∧ m.preemptible = true ∧ m.priority < pr := by
  unfold State.yields
  cases s.lease? v <;> simp

theorem channelPasses_iff (s : State) (pr : Priority) (c : ChannelNo) : s.channelPasses pr c = true ↔
    (s.channel c).available = true ∧ ∀ v, (s.channel c).state.link = some v → s.yields v pr = true := by
  unfold State.channelPasses
  cases (s.channel c).state.link <;> simp

/-- Settles O47: the channel condition channel by channel, and the queue condition entry by entry. -/
theorem grantableWhen : Obligations.GrantableWhen := by
  intro s ahead w l hl
  rw [grantable_iff hl]
  refine and_congr (forall₂_congr fun c _ => ?_) (forall₄_congr fun u _ m _ => ?_)
  · rw [channelPasses_iff, available_iff, and_assoc, and_assoc]
    simp only [yields_iff]
  · rw [← overlaps_iff, Bool.not_eq_true]

/-! ### Parts in which no more is grantable -/

/-- What the conditions of a grant read of a lease: its set, its priority, and whether it is preemptible. -/
def Lease.bid (l : Lease) : Word × Priority × Bool := (l.set, l.priority, l.preemptible)

/-- The part `t` offers a waiting lease no more than `s` does: the queue, the links and what the leases compete with are the same,
and no channel is available that was not. -/
structure State.noFreer (s t : State) : Prop where
  queue : t.waitQueue = s.waitQueue
  bid : ∀ v, (t.lease? v).map Lease.bid = (s.lease? v).map Lease.bid
  link : ∀ c, (t.channel c).state.link = (s.channel c).state.link
  available : ∀ c, (t.channel c).available = true → (s.channel c).available = true

theorem noFreer_lease {s t : State} (h : s.noFreer t) {v : SlotNo} {l : Lease} (hl : s.lease? v = some l) :
    ∃ m, t.lease? v = some m ∧ m.set = l.set ∧ m.priority = l.priority ∧ m.preemptible = l.preemptible := by
  have hb := h.bid v
  rw [hl] at hb
  obtain ⟨m, hm, he⟩ := Option.map_eq_some_iff.1 hb
  simp only [Lease.bid, Prod.mk.injEq] at he
  exact ⟨m, hm, he⟩

theorem noFreer_yields {s t : State} (h : s.noFreer t) (v : SlotNo) (pr : Priority) : t.yields v pr = s.yields v pr := by
  cases hl : s.lease? v with
  | some l =>
    obtain ⟨m, hm, -, hp, hpre⟩ := noFreer_lease h hl
    simp only [State.yields, hl, hm, hp, hpre]
  | none =>
    have hn : t.lease? v = none := by have hb := h.bid v; rw [hl] at hb; exact Option.map_eq_none_iff.1 hb
    simp only [State.yields, hl, hn]

theorem grantable_of_noFreer {s t : State} (h : s.noFreer t) {ahead : List SlotNo} {w : SlotNo}
    (hg : t.grantable ahead w = true) : s.grantable ahead w = true := by
  cases hl : s.lease? w with
  | none =>
    have hn : t.lease? w = none := by have hb := h.bid w; rw [hl] at hb; exact Option.map_eq_none_iff.1 hb
    simp only [State.grantable, hn] at hg
    cases hg
  | some l =>
    obtain ⟨m, hm, hset, hpr, -⟩ := noFreer_lease h hl
    obtain ⟨hpass, hahead⟩ := (grantable_iff hm).1 hg
    rw [hset, hpr] at hpass
    refine (grantable_iff hl).2 ⟨fun c hc => ?_, fun u hu k hk => ?_⟩
    · obtain ⟨ha, hy⟩ := (channelPasses_iff t _ c).1 (hpass c hc)
      exact (channelPasses_iff s _ c).2 ⟨h.available c ha, fun v hv => noFreer_yields h v _ ▸ hy v ((h.link c).trans hv)⟩
    · obtain ⟨k', hk', hkset, -⟩ := noFreer_lease h hk
      have := hahead u hu k' hk'
      rwa [hkset, hset] at this

/-- A settled part stays settled when no more is offered (R50). -/
theorem settled_of_noFreer {s t : State} (h : s.noFreer t) (hs : s.settled) : t.settled := fun front w back hq => by
  have hold := hs front w back (h.queue ▸ hq)
  rw [← Bool.not_eq_true] at hold ⊢
  exact fun hg => hold (grantable_of_noFreer h hg)

theorem settled_of_no_queue {s : State} (h : s.waitQueue = []) : s.settled := fun front w back hq =>
  absurd (h.symm.trans hq).symm (List.append_ne_nil_of_right_ne_nil front (List.cons_ne_nil w back))

/-! ### The updates that offer no more -/

theorem noFreer_of_sameParts {s t : State} (h : s.sameParts t) : s.noFreer t :=
  ⟨h.waitQueue, fun v => by rw [sameParts_lease h], fun c => by rw [sameParts_channel h],
    fun c => by rw [sameParts_channel h]; exact id⟩

theorem noFreer_refl (s : State) : s.noFreer s := noFreer_of_sameParts (sameParts_refl s)

theorem noFreer_trans {s t u : State} (h : s.noFreer t) (h' : t.noFreer u) : s.noFreer u :=
  ⟨h'.queue.trans h.queue, fun v => (h'.bid v).trans (h.bid v), fun c => (h'.link c).trans (h.link c),
    fun c ha => h.available c (h'.available c ha)⟩

theorem noFreer_modifyHost (s : State) (g : HostNo) (f : HostRecord → HostRecord) : s.noFreer (s.modifyHost g f) :=
  ⟨rfl, fun _ => rfl, fun _ => rfl, fun _ => id⟩

theorem noFreer_notify (s : State) (g : HostNo) (n : Notice) : s.noFreer (s.notify g n) := noFreer_modifyHost s g _

theorem noFreer_notifyAll (s : State) (n : Notice) : s.noFreer (s.notifyAll n) :=
  ⟨rfl, fun _ => rfl, fun _ => rfl, fun _ => id⟩

theorem noFreer_answer (s : State) (p : HostNo) (seq : Byte) (r : Result) (fields : List Byte) :
    s.noFreer (s.answer p seq r fields) := noFreer_of_sameParts (sameParts_modifyPort s p _)

theorem noFreer_refuse (s : State) (p : HostNo) (seq : Byte) (r : Result) : s.noFreer (s.refuse p seq r) :=
  noFreer_answer s p seq r []

theorem noFreer_modifyLease (s : State) (v : SlotNo) {f : Lease → Lease} (hf : ∀ l, (f l).bid = l.bid) :
    s.noFreer (s.modifyLease v f) := by
  refine ⟨rfl, fun u => ?_, fun _ => rfl, fun _ => id⟩
  rw [modifyLease_lease]
  split
  · rw [Option.map_map]
    exact congrArg (Option.map · _) (funext hf)
  · rfl

theorem noFreer_warningCheck (s : State) (v : SlotNo) : s.noFreer (s.warningCheck v) := by
  unfold State.warningCheck
  split
  · exact noFreer_refl s
  · split
    · exact noFreer_trans (noFreer_modifyLease s v fun _ => by rfl) (noFreer_notify _ _ _)
    · exact noFreer_refl s

/-- A channel whose state changes is available after it only if it was, unless the change takes it out of lockout. -/
theorem available_of_restated {ch : Channel} {x : ChannelState} (hx : ch.state = .lockedOut → x = .lockedOut)
    (h : ({ ch with state := x } : Channel).available = true) : ch.available = true :=
  available_of_state (ch := { ch with state := x }) h fun hl => not_lockedOut_of_available h (hx hl)

/-- Channels that change their states but not their links, and that leave lockout never (R1, R2). -/
theorem noFreer_of_states {s t : State} (hq : t.waitQueue = s.waitQueue)
    (hb : ∀ v, (t.lease? v).map Lease.bid = (s.lease? v).map Lease.bid)
    (hc : ∀ c, ∃ x : ChannelState, t.channel c = { s.channel c with state := x } ∧ x.link = (s.channel c).state.link ∧
      ((s.channel c).state = .lockedOut → x = .lockedOut)) : s.noFreer t := by
  refine ⟨hq, hb, fun c => ?_, fun c ha => ?_⟩
  · obtain ⟨x, hx, hlink, -⟩ := hc c
    rw [hx]
    exact hlink
  · obtain ⟨x, hx, -, hlock⟩ := hc c
    rw [hx] at ha
    exact available_of_restated hlock ha

/-- One channel changed, its link being the same. -/
theorem noFreer_modifyChannel {s : State} {c : ChannelNo} {f : Channel → Channel}
    (hl : (f (s.channel c)).state.link = (s.channel c).state.link)
    (ha : (f (s.channel c)).available = true → (s.channel c).available = true) : s.noFreer (s.modifyChannel c f) := by
  refine ⟨rfl, fun _ => rfl, fun d => ?_, fun d => ?_⟩
  all_goals
    rw [modifyChannel_channel]
    split
    · rename_i hd
      subst hd
      assumption
  · rfl
  · exact id

/-- A fault record that is written on a channel, FAULTED where it was FAULTED (R48). -/
theorem noFreer_modifyFault {s : State} {c : ChannelNo} {f : Channel → FaultRecord}
    (hf : (s.channel c).fault.state = .faulted → (f (s.channel c)).state = .faulted) :
    s.noFreer (s.modifyChannel c fun ch => { ch with fault := f ch }) := by
  refine noFreer_modifyChannel rfl fun ha => ?_
  rw [available_iff] at ha ⊢
  obtain ⟨hlease, hlock, hfault⟩ := ha
  exact ⟨hlease, hlock, fun ⟨hx, hp⟩ => hfault ⟨hf hx, hp⟩⟩

/-- The end of an event restarts timers and SUSPECT counts, which no condition of a grant reads (R5, R120). -/
theorem noFreer_syncOutputs (s t : State) : t.noFreer (syncOutputs s t) := by
  refine ⟨rfl, fun _ => rfl, fun c => by rw [syncOutputs_channel_state], fun c ha => ?_⟩
  rw [syncOutputs_channel] at ha
  split at ha
  · exact ha
  · rw [available_iff] at ha ⊢
    obtain ⟨hlease, hlock, hfault⟩ := ha
    refine ⟨hlease, hlock, fun ⟨hx, hp⟩ => hfault ⟨?_, hp⟩⟩
    simp [Channel.levelChanged, hx]

/-! ### The hold offers no more -/

theorem noFreer_heldBy {s : State} {v : SlotNo} {l : Lease} (hl : s.lease? v = some l)
    (hr : ∀ {c}, inSet l.set c = true → (s.channel c).state = .reserved v) (own : Option SlotNo) :
    s.noFreer (s.heldBy own v l) := by
  refine noFreer_of_states (heldBy_waitQueue s own v l) (fun u => ?_) fun c => ?_
  · rw [heldBy_lease]
    split
    · rename_i hu
      rw [hu, hl]
      rfl
    · rfl
  · rw [heldBy_channel]
    split
    · rename_i hc
      refine ⟨_, rfl, ?_, fun hx => ?_⟩
      · rw [hr hc]
        split <;> rfl
      · rw [hr hc] at hx
        cases hx
    · exact ⟨_, rfl, rfl, id⟩

/-- The hold of a lease to which its set is reserved changes no link (R10, R62). -/
theorem noFreer_holdUnlessBreak {s : State} {v : SlotNo} {l : Lease} (h : s.reservedTo v l) (own : Option SlotNo) :
    s.noFreer (s.holdUnlessBreak own v l.set) := by
  unfold State.holdUnlessBreak
  cases hb : s.anyBreak l.set with
  | true => exact noFreer_refl s
  | false =>
    rw [if_neg (by decide), holdLease_of_reservedTo h hb]
    exact noFreer_heldBy h.lease (reserved_of_not_break h hb) own

/-! ### The rows that run no pass -/

theorem noFreer_renew (s : State) (p : HostNo) (seq : Byte) (newTerm : Word) (v : SlotNo) (l : Lease) :
    s.noFreer (s.renew p seq newTerm v l) := by
  have renewed (t : Nat) : s.noFreer ((s.modifyLease v (Lease.renewed t)).warningCheck v) :=
    noFreer_trans (noFreer_modifyLease s v fun _ => by rfl) (noFreer_warningCheck _ v)
  unfold State.renew
  split
  · exact noFreer_refuse s p seq _
  · dsimp only
    split
    · exact noFreer_refuse s p seq _
    · exact noFreer_trans (noFreer_modifyLease s v fun _ => by rfl) (noFreer_answer _ p seq _ _)
    · exact noFreer_trans (renewed _) (noFreer_answer _ p seq _ _)
    · exact noFreer_trans (renewed _) (noFreer_answer _ p seq _ _)

theorem redrive_link (ch : Channel) (level : Level) : (ch.redrive level).link = ch.state.link := by
  unfold Channel.redrive
  split <;> rename_i hx <;> rw [hx] <;> rfl

theorem noFreer_redriven (s : State) (mask levels : Word) : s.noFreer (s.redriven mask levels) := by
  refine noFreer_of_states rfl (fun _ => rfl) fun c => ?_
  rw [mapChannels_channel]
  split
  · exact ⟨_, rfl, redrive_link _ _, (redrive_eq_lockedOut _ _).2⟩
  · exact ⟨_, rfl, rfl, id⟩

theorem noFreer_drive (s : State) (p : HostNo) (seq : Byte) (mask levels : Word) (v : SlotNo) (l : Lease) :
    s.noFreer (s.drive p seq mask levels v l) := by
  unfold State.drive
  split
  · exact noFreer_refuse s p seq _
  · split
    · exact noFreer_refuse s p seq _
    · exact noFreer_trans (noFreer_trans (noFreer_redriven s mask levels) (noFreer_modifyLease _ v fun _ => by rfl))
        (noFreer_answer _ p seq _ _)
    · exact noFreer_trans (noFreer_modifyLease s v fun _ => by rfl) (noFreer_answer _ p seq _ _)
    · exact noFreer_trans (noFreer_modifyLease s v fun _ => by rfl) (noFreer_answer _ p seq _ _)

theorem noFreer_queryLease (s : State) (p : HostNo) (seq slot gen : Byte) : s.noFreer (s.queryLease p seq slot gen) := by
  unfold State.queryLease
  split
  · exact noFreer_refuse s p seq _
  · exact noFreer_answer s p seq _ _

theorem noFreer_listLeases (s : State) (p : HostNo) (seq start : Byte) : s.noFreer (s.listLeases p seq start) := by
  unfold State.listLeases
  split
  · exact noFreer_refuse s p seq _
  · exact noFreer_answer s p seq _ _

theorem noFreer_queryChannel (s : State) (p : HostNo) (seq channel : Byte) : s.noFreer (s.queryChannel p seq channel) := by
  unfold State.queryChannel
  split
  · exact noFreer_refuse s p seq _
  · exact noFreer_answer s p seq _ _

theorem noFreer_readHost (s : State) (p : HostNo) (seq host : Byte) : s.noFreer (s.readHost p seq host) := by
  unfold State.readHost
  split
  · exact noFreer_refuse s p seq _
  · exact noFreer_answer s p seq _ _

theorem noFreer_readNotice (s : State) (p : HostNo) (seq : Byte) : s.noFreer (s.readNotice p seq) := by
  unfold State.readNotice
  split
  · exact noFreer_answer s p seq _ _
  · exact noFreer_trans (noFreer_modifyHost s p _) (noFreer_answer _ p seq _ _)

theorem noFreer_setNotices (s : State) (p : HostNo) (seq : Byte) (mask : Word) (lead : Byte) :
    s.noFreer (s.setNotices p seq mask lead) := by
  unfold State.setNotices
  split
  · exact noFreer_refuse s p seq _
  · exact noFreer_trans (noFreer_modifyHost s p _) (noFreer_answer _ p seq _ _)

theorem noFreer_setHost (s : State) (p : HostNo) (seq host quota ceiling rights : Byte) :
    s.noFreer (s.setHost p seq host quota ceiling rights) := by
  unfold State.setHost
  split
  · exact noFreer_refuse s p seq _
  split
  · exact noFreer_refuse s p seq _
  split
  · exact noFreer_refuse s p seq _
  split
  · exact noFreer_refuse s p seq _
  split
  · exact noFreer_refuse s p seq _
  · exact noFreer_trans (noFreer_modifyHost s _ _) (noFreer_answer _ p seq _ _)

theorem noFreer_mapLeaseStates (s : State) (f : LeaseState → LeaseState) : s.noFreer (s.mapLeaseStates f) := by
  refine ⟨rfl, fun v => ?_, fun _ => rfl, fun _ => id⟩
  rw [mapLeaseStates_lease, Option.map_map]
  rfl

/-- Assertion changes no link: a DRIVEN channel becomes REARM under the same lease (R107). -/
theorem noFreer_assertInhibit (s : State) : s.noFreer s.assertInhibit := by
  have hchannels : s.noFreer ((s.qualify true).mapChannels fun _ ch => { ch with state := ch.suspend }) := by
    refine noFreer_of_states rfl (fun _ => rfl) fun c => ?_
    rw [mapChannels_channel, qualify_channel]
    exact ⟨_, rfl, suspend_link _, (suspend_eq_lockedOut _).2⟩
  exact noFreer_trans (noFreer_trans hchannels (noFreer_mapLeaseStates _ _)) (noFreer_notifyAll _ _)

theorem noFreer_liftInhibit (s : State) : s.noFreer s.liftInhibit :=
  noFreer_trans (t := s.qualify false) ⟨rfl, fun _ => rfl, fun _ => rfl, fun _ => id⟩
    (noFreer_trans (noFreer_mapLeaseStates _ _) (noFreer_notifyAll _ _))

theorem noFreer_settleTick (s : State) : s.noFreer s.settleTick := by
  refine ⟨rfl, fun _ => rfl, fun c => ?_, fun c => ?_⟩
  all_goals rw [State.settleTick, mapChannels_channel]
  exact id

theorem tick_bid (l : Lease) : l.tick.bid = l.bid := by
  unfold Lease.tick
  split <;> rfl

theorem noFreer_advance (s : State) : s.noFreer s.advance := by
  refine noFreer_of_states rfl (fun v => ?_) fun c => ⟨_, advance_channel s c, tick_link _, (tick_eq_lockedOut _).2⟩
  rw [advance_lease, Option.map_map]
  exact congrArg (Option.map · _) (funext tick_bid)

end Sys2Proof.Machine
end

section
/-! PROOFS. Every event that could make a waiting lease grantable runs a pass, so no step leaves one grantable (R50, R52). -/

namespace Sys2Proof.Machine

/-! ### The law of the table where a pass begins -/

theorem tableLaw_notify {s : State} (h : s.tableLaw) (g : HostNo) (n : Notice) : (s.notify g n).tableLaw :=
  tableLaw_of_sameTable (sameTable_notify s g n) h

theorem tableLaw_endLease {s : State} (h : s.tableLaw) (v : SlotNo) (n : Notice) : (s.endLease v n).tableLaw := by
  cases hl : s.lease? v with
  | none => simpa only [State.endLease, hl] using h
  | some l => exact endLease_eq hl n ▸ tableLaw_notify (tableLaw_withoutLease h hl) _ _

theorem tableLaw_modifyChannel {s : State} (h : s.tableLaw) {c : ChannelNo} {f : Channel → Channel}
    (hc : (f (s.channel c)).state = (s.channel c).state ∨
      (s.channel c).state.link = none ∧ (f (s.channel c)).state.link = none) : (s.modifyChannel c f).tableLaw := by
  refine tableLaw_of_unlinked h rfl rfl id fun d => ?_
  rw [modifyChannel_channel]
  split
  · rename_i hd
    subst hd
    exact hc
  · exact .inl rfl

/-- The leases of `vs`, ended one after the other. -/
theorem tableLaw_endQuietly_foldl {vs : List SlotNo} (hn : vs.Nodup) {s : State} (h : s.tableLaw)
    (hl : ∀ v ∈ vs, s.lease? v ≠ none) : (vs.foldl State.endQuietly s).tableLaw := by
  induction vs generalizing s with
  | nil => exact h
  | cons v vs ih =>
    obtain ⟨hv, hn⟩ := List.nodup_cons.1 hn
    obtain ⟨l, hlv⟩ := Option.ne_none_iff_exists'.1 (hl v (.head vs))
    rw [List.foldl_cons, endQuietly_eq hlv]
    refine ih hn (tableLaw_withoutLease h hlv) fun u hu => ?_
    rw [withoutLease_lease, if_neg (ne_of_mem_of_not_mem hu hv)]
    exact hl u (.tail v hu)

theorem tableLaw_shedChannels {s : State} (h : s.tableLaw) {v : SlotNo} {l : Lease} (hl : s.lease? v = some l) {shed : Word}
    (hs : subset shed l.set = true) : (s.shedChannels shed v l).tableLaw := by
  unfold State.shedChannels
  split
  · exact shedWaiting_tableLaw h hl ‹_›
  · exact shedFrom_tableLaw h hl (.inl ‹_›) hs
  · exact shedFrom_tableLaw h hl (.inr ‹_›) hs
  · exact holdUnlessBreak_tableLaw (shedFrom_reservedTo h hl ‹_› hs) none

/-! ### The commands on leases -/

theorem settled_answer {s : State} (h : s.settled) (p : HostNo) (seq : Byte) (r : Result) (fields : List Byte) :
    (s.answer p seq r fields).settled := settled_of_noFreer (noFreer_answer s p seq r fields) h

theorem settled_refuse {s : State} (h : s.settled) (p : HostNo) (seq : Byte) (r : Result) : (s.refuse p seq r).settled :=
  settled_answer h p seq r []

/-- A REQUEST that is answered BUSY has granted nothing, and takes its lease out again (R60). -/
theorem joinedBy_withdrawn_settled {s : State} {v : SlotNo} {l : Lease} (h : s.tableLaw) (hv : s.lease? v = none)
    (hs : s.settled) : (((s.joinedBy v l).dequeue v).freeSlot v).settled := by
  have hlease (u : SlotNo) : (((s.joinedBy v l).dequeue v).freeSlot v).lease? u = s.lease? u := by
    by_cases hu : u = v
    · rw [hu, freeSlot_lease_self, hv]
    · exact (freeSlot_lease_ne _ hu).trans ((setLease_lease s v u l).trans (if_neg hu))
  refine settled_of_noFreer (s := s) ⟨?_, fun u => by rw [hlease], fun _ => rfl, fun _ => id⟩ hs
  rw [joinedBy_dequeue_freeSlot h hv]

theorem requestOutcome_settled {s : State} {v : SlotNo} {l : Lease} (h : s.tableLaw) (hs : s.settled)
    (hv : s.lease? v = none) (hw : l.state = .waiting) (p : HostNo) (seq : Byte) (hd : Handle) :
    ((s.enterRequest v l).requestOutcome p seq v hd).settled := by
  have hpass : (s.enterRequest v l).settled := pass_settled (tableLaw_enter h hv hw) (some v)
  cases hm : (s.enterRequest v l).lease? v with
  | none =>
    simp only [State.requestOutcome, hm]
    exact settled_answer hpass p seq _ _
  | some m =>
    by_cases hmw : m.state = .waiting
    · rw [requestOutcome_of_waiting hm hmw]
      split
      · exact settled_answer hpass p seq _ _
      · rcases enterRequest_cases h hv hw hs with ⟨m', hm', hmw'⟩ | he
        · exact absurd ((Option.some_inj.1 (hm.symm.trans hm')) ▸ hmw) hmw'
        · rw [he]
          exact settled_answer (joinedBy_withdrawn_settled h hv hs) p seq _ _
    · rw [requestOutcome_of_granted hm hmw]
      exact settled_answer hpass p seq _ _

section rows
variable {s : State} (h : s.tableLaw) (hs : s.settled)
include h hs

theorem request_settled (p : HostNo) (seq : Byte) (set levels : Word) (comp : Byte) (term maxWait tag : Word) :
    (s.request p seq set levels comp term maxWait tag).settled := by
  unfold State.request
  split
  · split
    · exact settled_refuse hs p seq _
    split
    · exact settled_refuse hs p seq _
    split
    · exact settled_refuse hs p seq _
    split
    · exact settled_refuse hs p seq _
    split
    · exact settled_refuse hs p seq _
    · rename_i v hv
      exact requestOutcome_settled h hs (lowestFree_eq_some hv) rfl p seq _
  · exact settled_refuse hs p seq _

theorem shed_settled (p : HostNo) (seq : Byte) (set : Word) {v : SlotNo} {l : Lease} (hl : s.lease? v = some l) :
    (s.shed p seq set v l).settled := by
  unfold State.shed
  split
  · exact settled_refuse hs p seq _
  · rename_i hsub
    split
    · exact settled_refuse hs p seq _
    · exact settled_answer (pass_settled (tableLaw_shedChannels h hl (by simpa using hsub)) none) p seq _ _

theorem alter_settled (p : HostNo) (seq comp : Byte) {v : SlotNo} {l : Lease} (hl : s.lease? v = some l) :
    (s.alter p seq comp v l).settled := by
  unfold State.alter
  split
  · exact settled_refuse hs p seq _
  · split
    · exact settled_refuse hs p seq _
    · exact settled_answer (pass_settled (writeCompetition_tableLaw h hl _ _ _) none) p seq _ _

omit hs in
theorem release_settled (p : HostNo) (seq : Byte) {v : SlotNo} {l : Lease} (hl : s.lease? v = some l) :
    (((s.endQuietly v).pass none).answer p seq .ok []).settled := by
  rw [endQuietly_eq hl]
  exact settled_answer (pass_settled (tableLaw_withoutLease h hl) none) p seq _ _

omit hs in
theorem releaseAll_settled (p : HostNo) (seq : Byte) : (s.releaseAll p seq).settled := by
  refine settled_answer (pass_settled (tableLaw_endQuietly_foldl (slotsOf_nodup s p) h fun v hv => ?_) none) p seq _ _
  obtain ⟨l, hl, -⟩ := mem_slotsOf.1 hv
  exact Option.ne_none_iff_exists'.2 ⟨l, hl⟩

theorem revoke_settled (p : HostNo) (seq slot gen : Byte) : (s.revoke p seq slot gen).settled := by
  unfold State.revoke
  split
  · exact settled_refuse hs p seq _
  · split
    · exact settled_refuse hs p seq _
    · exact settled_answer (pass_settled (tableLaw_endLease h _ _) none) p seq _ _

/-! ### Configuration and faults -/

/-- SET_CHANNEL runs its pass when the channel comes available by it; otherwise it offers no more than before (R157). -/
theorem setChannel_settled (p : HostNo) (seq channel flags breakTime settleTime threshold : Byte) :
    (s.setChannel p seq channel flags breakTime settleTime threshold).settled := by
  unfold State.setChannel
  split
  · exact settled_refuse hs p seq _
  split
  · rename_i c k _ _
    split
    · exact settled_refuse hs p seq _
    rename_i hx
    have hx := free_or_lockedOut hx
    have hlink : (s.channel c).state.link = none := by rcases hx with hx | hx <;> rw [hx] <;> rfl
    split
    · exact settled_refuse hs p seq _
    dsimp only
    split
    · exact settled_answer (pass_settled (tableLaw_modifyChannel h (.inr ⟨hlink, configure_link hx k⟩)) none) p seq _ _
    · rename_i hno
      rw [modifyChannel_channel_self] at hno
      refine settled_answer (settled_of_noFreer (noFreer_modifyChannel ?_ fun ha => ?_) hs) p seq _ _
      · rw [configure_link hx k, hlink]
      · by_contra hn
        exact hno ⟨by simpa using hn, ha⟩
  · exact settled_refuse hs p seq _

omit h in
theorem tableReset_settled (p : HostNo) (seq : Byte) : (s.tableReset p seq).settled := by
  unfold State.tableReset
  split
  · exact settled_refuse hs p seq _
  · exact settled_answer (settled_of_no_queue rfl) p seq _ _

theorem clearFault_settled (p : HostNo) (seq channel : Byte) : (s.clearFault p seq channel).settled := by
  unfold State.clearFault
  split
  · exact settled_refuse hs p seq _
  split
  · exact settled_refuse hs p seq _
  split
  · exact settled_refuse hs p seq _
  split
  · exact settled_refuse hs p seq _
  · exact settled_answer (pass_settled (tableLaw_modifyChannel h (unlock_link _)) none) p seq _ _

/-! ### The timed events -/

theorem termStep_settled (v : SlotNo) : (s.termStep v).settled := by
  unfold State.termStep
  split
  · exact hs
  · split
    · split
      · exact pass_settled (tableLaw_endLease h _ _) none
      · exact settled_of_noFreer (noFreer_trans (noFreer_modifyLease s v fun _ => by rfl) (noFreer_warningCheck _ v)) hs
    · exact hs

theorem expiryEvent_settled (v : SlotNo) : (s.expiryEvent v).settled := by
  unfold State.expiryEvent
  split
  · exact hs
  · split
    · exact pass_settled (tableLaw_endLease h _ _) none
    · exact hs

theorem waitStep_settled (v : SlotNo) : (s.waitStep v).settled := by
  unfold State.waitStep
  split
  · exact hs
  · split
    · split
      · exact pass_settled (tableLaw_endLease h _ _) none
      · exact settled_of_noFreer (noFreer_modifyLease s v fun _ => by rfl) hs
    · exact hs

theorem timeoutEvent_settled (v : SlotNo) : (s.timeoutEvent v).settled := by
  unfold State.timeoutEvent
  split
  · exact hs
  · split
    · exact pass_settled (tableLaw_endLease h _ _) none
    · exact hs

/-- The end of an unreserved break runs a pass; that of a reserved one leaves the channel with the lease it is reserved to (R15,
R16). -/
theorem endBreak_settled {c : ChannelNo} {link : Option SlotNo} {r ms : Nat} (hc : (s.channel c).state = .brk link r ms) :
    (s.endBreak c link).settled := by
  unfold State.endBreak
  cases link with
  | none =>
    refine pass_settled (tableLaw_modifyChannel h (.inr ?_)) none
    simp [Channel.endBreak, hc, ChannelState.link]
  | some v =>
    have hfree : s.noFreer (s.modifyChannel c fun ch => { ch with state := ch.endBreak }) := by
      refine noFreer_modifyChannel ?_ (available_of_restated (endBreak_eq_lockedOut _).2)
      simp [Channel.endBreak, hc, ChannelState.link]
    obtain ⟨l, hl, -⟩ := h.2.1 c v (by rw [hc]; rfl)
    have hl : s.lease? v = some l := hl
    simp only [State.breakEnded, modifyChannel_lease, hl]
    exact settled_of_noFreer (noFreer_trans hfree (noFreer_holdUnlessBreak (endBreak_reservedTo h hc hl) none)) hs

theorem breakCountdown_settled (c : ChannelNo) : (s.breakCountdown c).settled := by
  unfold State.breakCountdown
  split
  case h_1 link remaining ms hc =>
    split
    · split
      · exact endBreak_settled h hs hc
      · refine settled_of_noFreer (noFreer_modifyChannel ?_ (available_of_restated fun hx => ?_)) hs
        · rw [hc]
          rfl
        · rw [hc] at hx
          cases hx
    · exact hs
  all_goals exact hs

theorem breakEndReserved_settled (c : ChannelNo) : (s.breakEndReserved c).settled := by
  unfold State.breakEndReserved
  split
  case h_1 v remaining ms hc =>
    split
    · exact endBreak_settled h hs hc
    · exact hs
  all_goals exact hs

theorem breakEndUnreserved_settled (c : ChannelNo) : (s.breakEndUnreserved c).settled := by
  unfold State.breakEndUnreserved
  split
  case h_1 remaining ms hc =>
    split
    · exact endBreak_settled h hs hc
    · exact hs
  all_goals exact hs

/-! ### Supervision -/

/-- A confirmed fault ends the linked lease and runs a pass, or bars a channel that no lease is linked to (R122 to R124). -/
theorem applyPolicy_settled (c : ChannelNo) (kind : FaultKind) : (s.applyPolicy c kind (s.linkedLease c)).settled := by
  unfold State.applyPolicy
  split
  · exact hs
  · exact hs
  · exact pass_settled (tableLaw_endLease h _ _) none
  · rename_i hn
    refine settled_of_noFreer (noFreer_modifyChannel (link_of_linkedLease_none h hn).symm fun ha => ?_) hs
    exact absurd rfl (not_lockedOut_of_available ha)
  · rename_i v l hlinked
    unfold State.revokeForFault
    rw [endLease_lockOut]
    exact pass_settled (tableLaw_modifyChannel (tableLaw_endLease h _ _)
      (.inr ⟨endLease_unlinks h (linkedLease_eq_some hlinked).1 _, rfl⟩)) none

theorem confirm_settled (c : ChannelNo) (kind : FaultKind) (n : Nat) : (s.confirm c kind n).settled := by
  have hfault : s.noFreer (s.modifyChannel c fun ch =>
      { ch with fault := { state := .faulted, count := n, kind := kind, present := true } }) := noFreer_modifyFault fun _ => rfl
  have hreport (t : State) (linked : Option (SlotNo × Lease)) : t.noFreer (t.reportFault c kind linked) := by
    unfold State.reportFault
    split
    · exact noFreer_notify t _ _
    · exact noFreer_notifyAll t _
  have htable := tableLaw_of_sameTable (sameTable_trans (sameTable_modifyFault s c fun _ =>
    { state := .faulted, count := n, kind := kind, present := true }) (sameTable_reportFault _ c kind (s.linkedLease c))) h
  have hpolicy := applyPolicy_settled htable (settled_of_noFreer (noFreer_trans hfault (hreport _ (s.linkedLease c))) hs) c kind
  rwa [reportFault_linkedLease, linkedLease_modifyFault] at hpolicy

theorem countDisagreement_settled {c : ChannelNo} (hf : (s.channel c).fault.state ≠ .faulted) (n : Nat) :
    (s.countDisagreement c n).settled := by
  unfold State.countDisagreement
  dsimp only
  split
  · exact confirm_settled h hs c _ n
  · exact settled_of_noFreer (noFreer_modifyFault fun hx => absurd hx hf) hs

theorem compare_settled (c : ChannelNo) (disagrees : Bool) : (s.compare c disagrees).settled := by
  unfold State.compare
  dsimp only
  split
  · exact settled_of_noFreer (noFreer_modifyFault id) hs
  · rename_i hx
    split
    · exact countDisagreement_settled h hs (by rw [hx]; nofun) _
    · exact hs
  · rename_i hx
    split
    · exact countDisagreement_settled h hs (by rw [hx]; nofun) _
    · exact settled_of_noFreer (noFreer_modifyFault fun hy => by rw [hx] at hy; cases hy) hs

theorem sweepVisit_settled : s.sweepVisit.settled := by
  have hmoved : s.sameParts { s with sweep := s.sweep + 1 } := ⟨rfl, rfl, rfl, rfl, rfl⟩
  have hsettled := settled_of_noFreer (noFreer_of_sameParts hmoved) hs
  unfold State.sweepVisit State.visit
  dsimp only
  split
  · exact compare_settled (tableLaw_of_sameTable (sameTable_of_sameParts hmoved) h) hsettled _ _
  · exact hsettled

/-! ### Every row and every step -/

theorem perform_settled (i : Instr) : (s.perform i).settled := by
  have quiet {t : State} (ht : s.noFreer t) : t.settled := settled_of_noFreer ht hs
  have own {p : HostNo} {seq slot gen : Byte} {body : SlotNo → Lease → State}
      (hb : ∀ v l, s.lease? v = some l → (body v l).settled) : (s.onOwnLease p seq slot gen body).settled :=
    onOwnLease_keeps (settled_refuse hs p seq) hb
  cases i with
  | noop | frameStart | frameError | deviceReset | resetComplete | inhibitLineChange => exact hs
  | request p _ seq set levels comp term maxWait tag => exact request_settled h hs p seq set levels comp term maxWait tag
  | renew p _ seq _ _ newTerm => exact own fun v l _ => quiet (noFreer_renew s p seq newTerm v l)
  | drive p _ seq _ _ mask levels => exact own fun v l _ => quiet (noFreer_drive s p seq mask levels v l)
  | shed p _ seq _ _ set => exact own fun _ _ hl => shed_settled h hs p seq set hl
  | alter p _ seq _ _ comp => exact own fun _ _ hl => alter_settled h hs p seq comp hl
  | release p _ seq => exact own fun _ _ hl => release_settled h p seq hl
  | releaseAll p _ seq => exact releaseAll_settled h p seq
  | revoke p _ seq slot gen => exact revoke_settled h hs p seq slot gen
  | queryLease p _ seq slot gen => exact quiet (noFreer_queryLease s p seq slot gen)
  | listLeases p _ seq start => exact quiet (noFreer_listLeases s p seq start)
  | queryChannel p _ seq channel => exact quiet (noFreer_queryChannel s p seq channel)
  | queryStatus p _ seq => exact quiet (noFreer_answer s p seq _ _)
  | readNotice p _ seq => exact quiet (noFreer_readNotice s p seq)
  | setNotices p _ seq mask lead => exact quiet (noFreer_setNotices s p seq mask lead)
  | setHost p _ seq host quota ceiling rights => exact quiet (noFreer_setHost s p seq host quota ceiling rights)
  | readHost p _ seq host => exact quiet (noFreer_readHost s p seq host)
  | setChannel p _ seq channel flags breakTime settleTime threshold =>
    exact setChannel_settled h hs p seq channel flags breakTime settleTime threshold
  | clearFault p _ seq channel => exact clearFault_settled h hs p seq channel
  | tableReset p _ seq => exact tableReset_settled hs p seq
  | termStep v => exact termStep_settled h hs v
  | expiry v => exact expiryEvent_settled h hs v
  | waitStep v => exact waitStep_settled h hs v
  | waitTimeout v => exact timeoutEvent_settled h hs v
  | breakEndReserved c => exact breakEndReserved_settled h hs c
  | breakEndUnreserved c => exact breakEndUnreserved_settled h hs c
  | breakCountdown c => exact breakCountdown_settled h hs c
  | sweepVisit => exact sweepVisit_settled h hs
  | settleTimerTick => exact quiet (noFreer_settleTick s)
  | assertion =>
    unfold State.perform
    dsimp only
    split
    · exact quiet (noFreer_assertInhibit s)
    · exact hs
  | releaseOfInhibit =>
    unfold State.perform
    dsimp only
    split
    · exact quiet (noFreer_liftInhibit s)
    · exact hs

end rows

/-- Settles O58: the work of every row ends in a pass, or offers no waiting lease more than it had. -/
theorem settledKept : Obligations.SettledKept := by
  intro s t htable hs hst
  exact step_leads (P := fun s => s.tableLaw ∧ s.settled) (P' := State.settled) (Q := fun _ t => t.settled)
    (fun hp h => ⟨tableLaw_of_sameTable (sameTable_of_sameParts hp) h.1, settled_of_noFreer (noFreer_of_sameParts hp) h.2⟩)
    (fun hp h => settled_of_noFreer (noFreer_of_sameParts hp) h) And.right (fun _ => settled_of_no_queue rfl)
    (fun {s} h => settled_of_noFreer (noFreer_advance s) h.2) (fun i {_} h => perform_settled h.1 h.2 i)
    (fun h => settled_of_noFreer (noFreer_syncOutputs _ _) h) ⟨htable, hs⟩ hst

end Sys2Proof.Machine
end

section
/-! PROOFS. ALTER, and what pre-emption does to a victim (R45, R46, R55 to R57, R81, R82). -/

namespace Sys2Proof.Machine

/-! ### ALTER -/

theorem competitionField_of_low {comp : Byte} (h : comp &&& 0x07 = 0) :
    competitionField comp = some ((comp.extractLsb' 5 3).toFin, comp.getLsbD 4, comp.getLsbD 3) :=
  if_pos ((lowBits_eq_zero comp).2 h)

theorem filter_bne_eq (q : List SlotNo) (v : SlotNo) : q.filter (· != v) = q.filter (· ≠ v) :=
  List.filter_congr fun u _ => by rw [Bool.eq_iff_iff, bne_iff_ne, decide_eq_true_iff]

/-- What ALTER writes, as one update: the record, and a WAITING lease whose priority changes at the back of its new group. -/
theorem writeCompetition_update {s : State} {v : SlotNo} {l : Lease} (hl : s.lease? v = some l) (pr : Priority)
    (preemptible requeue : Bool) : s.writeCompetition v l pr preemptible requeue =
      { s.setLease v (l.competing pr preemptible requeue) with
        waitQueue := if l.state = .waiting ∧ l.priority ≠ pr then s.joined (s.waitQueue.filter (· ≠ v)) v pr
          else s.waitQueue } := by
  rw [writeCompetition_eq]
  split
  · have hlease : (s.dequeue v).modifyLease v (Lease.competing pr preemptible requeue) =
        { s.setLease v (l.competing pr preemptible requeue) with waitQueue := s.waitQueue.filter (· ≠ v) } := by
      rw [modifyLease_eq_setLease (s := s.dequeue v) hl, ← filter_bne_eq]
      rfl
    have hother : ∀ u ∈ s.waitQueue.filter (· ≠ v),
        decide (pr ≤ (s.setLease v (l.competing pr preemptible requeue)).priorityOf u) = decide (pr ≤ s.priorityOf u) :=
      fun u hu => by
        have hne : u ≠ v := by simpa using (List.mem_filter.1 hu).2
        rw [priorityOf_of_lease ((setLease_lease s v u _).trans (if_neg hne))]
    obtain ⟨hfirst, hlast⟩ := takeWhile_congr hother
    rw [hlease]
    unfold State.enqueueBack State.joined
    rw [← hfirst, ← hlast]
    rfl
  · exact modifyLease_eq_setLease hl _

theorem writeCompetition_framed (s : State) (p : HostNo) (n : Nat) (v : SlotNo) (l : Lease) (pr : Priority)
    (preemptible requeue : Bool) : (s.framed p n).writeCompetition v l pr preemptible requeue =
      (s.writeCompetition v l pr preemptible requeue).framed p n := by
  rw [writeCompetition_eq, writeCompetition_eq]
  split <;> rfl

/-- Settles O20: by the update that ALTER writes; its pass and its reply neither read nor change the port. -/
theorem alterWritesCompetition : Obligations.AlterWritesCompetition := by
  intro p n seq slot gen comp v l s hl hf hn hp hcomp pr hpr l' w
  refine congrArg Host.Outcome.next (onFrame_own hl hf hn hp ?_)
  have hw : (s.writeCompetition v l pr (comp.getLsbD 4) (comp.getLsbD 3)).pass none = w :=
    congrArg (State.pass · none) (writeCompetition_update hn.2.1 pr _ _)
  have hceiling : ¬((s.framed p n).host p).ceiling < pr := not_lt.2 hpr
  unfold State.alter
  rw [competitionField_of_low hcomp]
  dsimp only
  rw [if_neg hceiling, writeCompetition_framed, pass_framed, hw]
  rfl

/-! ### Pre-emption -/

/-- Settles O49: the record and the queue of a victim that returns, and the slot of one that ends. -/
theorem victimPreempted : Obligations.VictimPreempted := by
  intro s w v wset l hl channels
  constructor
  · intro hr hm u
    have hreturns : (l.requeue && l.maxWait != 0) = true := by simp [hr, hm]
    unfold State.preempt
    rw [hl]
    dsimp only
    rw [if_pos hreturns, modifyLease_eq_setLease (s := s.mapChannels _) hl]
    rfl
  · intro hend
    have hends : ¬(l.requeue && l.maxWait != 0) = true := by
      rcases hend with h | h <;> simp [h]
    unfold State.preempt
    rw [hl]
    dsimp only
    rw [if_neg hends]
    rfl

end Sys2Proof.Machine
end

section
/-! PROOFS. Working with a lease: the own checks of RENEW, DRIVE, SHED and ALTER, the term that RENEW restarts, and the
channels that SHED takes out (R67 to R70, R72, R77 to R79, R81, R95). -/

namespace Sys2Proof.Machine

/-! ### The own checks -/

theorem stepsField_eq_none {w : Word} (h : 6000 < w.toNat) : stepsField w = none := if_neg (Nat.not_le.2 h)

theorem competitionField_eq_none {comp : Byte} (h : comp &&& 0x07 ≠ 0) : competitionField comp = none :=
  if_neg (mt (lowBits_eq_zero comp).1 h)

section checks
variable {s : State} {p : HostNo} {seq : Byte} {v : SlotNo} {l : Lease}

theorem renew_badValue {newTerm : Word} (h : 6000 < newTerm.toNat) :
    s.renew p seq newTerm v l = s.refuse p seq .badValue := by
  unfold State.renew
  rw [stepsField_eq_none h]

theorem renew_wrongState {newTerm : Word} (h : newTerm.toNat ≤ 6000) (hx : l.state = .waiting) :
    s.renew p seq newTerm v l = s.refuse p seq .wrongState := by
  unfold State.renew
  rw [stepsField_of_le h, hx]

theorem drive_outsideSet {mask : Word} (h : subset mask l.set = false) (levels : Word) :
    s.drive p seq mask levels v l = s.refuse p seq .outsideSet :=
  if_pos h

theorem drive_inhibited {mask : Word} (h : subset mask l.set = true) (hx : l.state = .suspended) (levels : Word) :
    s.drive p seq mask levels v l = s.refuse p seq .inhibited := by
  unfold State.drive
  rw [if_neg (ne_false_of_eq_true h), hx]

theorem shed_outsideSet {shed : Word} (h : subset shed l.set = false) :
    s.shed p seq shed v l = s.refuse p seq .outsideSet :=
  if_pos h

theorem shed_badSet {shed : Word} (h : subset shed l.set = true) (hbad : shed = 0 ∨ shed = l.set) :
    s.shed p seq shed v l = s.refuse p seq .badSet :=
  (if_neg (ne_false_of_eq_true h)).trans (if_pos hbad)

theorem alter_badValue {comp : Byte} (h : comp &&& 0x07 ≠ 0) :
    s.alter p seq comp v l = s.refuse p seq .badValue := by
  unfold State.alter
  rw [competitionField_eq_none h]

theorem alter_ceiling {comp : Byte} (h : comp &&& 0x07 = 0) (hpr : (s.host p).ceiling < (comp.extractLsb' 5 3).toFin) :
    s.alter p seq comp v l = s.refuse p seq .ceiling := by
  unfold State.alter
  rw [competitionField_of_low h]
  exact if_pos hpr

/-- A command on a lease of the requesting host whose body does nothing but refuse (R67). -/
theorem onFrame_ownRefused {n payload : Nat} (hl : s.listens p = true) (hf : clocksFit payload n = true)
    {slot gen : Byte} (hn : s.names slot gen v l) (hp : l.holder = p) {body : State → SlotNo → Lease → State} {r : Result}
    (hb : body (s.framed p n) v l = (s.framed p n).refuse p seq r) :
    onFrame p n payload (fun u => u.onOwnLease p seq slot gen (body u)) s = s.replied p seq r [] := by
  rw [onFrame_own hl hf hn hp (t := s) hb, syncOutputs_self]

end checks

/-- Settles O16: by the first check that fails, and each refusal leaves all but the reply. -/
theorem ownChecksRefuse : Obligations.OwnChecksRefuse := by
  intro p n seq slot gen comp a b v l s hl hn hp
  have refused {k : Nat} (hf : clocksFit k n = true) {body : State → SlotNo → Lease → State} {r : Result}
      (hb : body (s.framed p n) v l = (s.framed p n).refuse p seq r) :=
    congrArg (Host.Outcome.next (φ := Fault) (ρ := Refusal)) (onFrame_ownRefused hl hf hn hp hb)
  refine ⟨fun hf => ⟨fun h => ?_, fun h hx => ?_⟩, fun hf => ⟨fun h => ?_, fun h hx => ?_⟩,
    fun hf => ⟨fun h => ?_, fun h hbad => ?_⟩, fun hf => ⟨fun h => ?_, fun h hpr => ?_⟩⟩
  · exact refused hf (renew_badValue h)
  · exact refused hf (renew_wrongState h hx)
  · exact refused hf (drive_outsideSet h b)
  · exact refused hf (drive_inhibited h hx b)
  · exact refused hf (shed_outsideSet h)
  · exact refused hf (shed_badSet h hbad)
  · exact refused hf (alter_badValue h)
  · exact refused hf (alter_ceiling h hpr)

/-! ### RENEW -/

/-- The term that RENEW gives: the new one, or the present one for 0 (R68). -/
def Lease.termAfter (l : Lease) (newTerm : Word) : Nat := if newTerm = 0 then l.term else newTerm.toNat

theorem termAfter_eq (l : Lease) (newTerm : Word) :
    (if newTerm.toNat = 0 then l.term else newTerm.toNat) = l.termAfter newTerm :=
  if_congr (BitVec.toNat_inj (y := 0)) rfl rfl

/-- The part after the term of the lease `l` in slot `v` has restarted at `t`, with the warning check of its start (R69, R95). -/
def State.restarted (s : State) (v : SlotNo) (l : Lease) (t : Nat) : State :=
  (if s.warns l.holder t then s.notify l.holder (.expiring (s.handle v) l.tag t) else s).setLease v
    { l with term := t, remaining := t, warned := decide (s.warns l.holder t), stepMs := 0 }

/-- The warning check right after the restart: the restarted record is not warned, and its lease has its whole term to run. -/
theorem renewed_warningCheck {s : State} {v : SlotNo} {l : Lease} (hl : s.lease? v = some l) (t : Nat) :
    (s.modifyLease v (Lease.renewed t)).warningCheck v = s.restarted v l t := by
  have hwarns : ((s.setLease v (l.renewed t)).warns (l.renewed t).holder (l.renewed t).remaining ∧
      (l.renewed t).warned = false) ↔ s.warns l.holder t := and_iff_left rfl
  have hhandle : (s.setLease v (l.renewed t)).handle v = s.handle v := by simp [State.handle]
  rw [modifyLease_eq_setLease hl, warningCheck_eq (setLease_lease_self s v _), if_congr hwarns rfl rfl, hhandle,
    setLease_setLease]
  unfold State.restarted
  by_cases hw : s.warns l.holder t
  · rw [if_pos hw, if_pos hw, decide_eq_true hw]
    rfl
  · rw [if_neg hw, if_neg hw, decide_eq_false hw]
    rfl

theorem restarted_framed (s : State) (p : HostNo) (n : Nat) (v : SlotNo) (l : Lease) (t : Nat) :
    (s.framed p n).restarted v l t = (s.restarted v l t).framed p n := by
  unfold State.restarted
  by_cases hw : s.warns l.holder t
  · rw [if_pos hw, if_pos (show (s.framed p n).warns l.holder t from hw)]
    rfl
  · rw [if_neg hw, if_neg (show ¬(s.framed p n).warns l.holder t from hw)]
    rfl

theorem restarted_channels (s : State) (v : SlotNo) (l : Lease) (t : Nat) : (s.restarted v l t).channels = s.channels := by
  unfold State.restarted
  split <;> rfl

/-- RENEW on a HELD or SUSPENDED lease (R69). -/
theorem renew_of_running {s : State} {v : SlotNo} {l : Lease} {newTerm : Word} (hl : s.lease? v = some l)
    (hx : l.state = .held ∨ l.state = .suspended) (h : newTerm.toNat ≤ 6000) (p : HostNo) (seq : Byte) :
    s.renew p seq newTerm v l =
      (s.restarted v l (l.termAfter newTerm)).answerRenew p seq (l.termAfter newTerm) (l.termAfter newTerm) := by
  unfold State.renew
  rw [stepsField_of_le h, ← renewed_warningCheck hl]
  dsimp only
  rw [termAfter_eq]
  rcases hx with hx | hx <;> rw [hx]

/-- RENEW on a GRANTING lease: the term alone is replaced (R70). -/
theorem renew_of_granting {s : State} {v : SlotNo} {l : Lease} {newTerm : Word} (hl : s.lease? v = some l)
    (hx : l.state = .granting) (h : newTerm.toNat ≤ 6000) (p : HostNo) (seq : Byte) :
    s.renew p seq newTerm v l =
      (s.setLease v { l with term := l.termAfter newTerm }).answerRenew p seq (l.termAfter newTerm) 0 := by
  unfold State.renew
  rw [stepsField_of_le h, ← modifyLease_eq_setLease hl fun l' => { l' with term := l.termAfter newTerm }]
  dsimp only
  rw [termAfter_eq, hx]

/-- Settles O17: by the lease state; no output level moves with a term. -/
theorem renewRestartsTerm : Obligations.RenewRestartsTerm := by
  intro p n seq slot gen newTerm v l s hl hf hn hp hterm t
  have hlease : (s.framed p n).lease? v = some l := hn.2.1
  refine ⟨fun hx => congrArg Host.Outcome.next ?_, fun hx => congrArg Host.Outcome.next ?_⟩
  · have hbody : (s.framed p n).renew p seq newTerm v l =
        ((s.restarted v l t).framed p n).answer p seq .ok (wordBytes t ++ wordBytes t) :=
      (renew_of_running hlease hx hterm p seq).trans (by rw [restarted_framed]; rfl)
    have hsync : syncOutputs s (s.restarted v l t) = s.restarted v l t :=
      syncOutputs_of_output fun c => by rw [State.channel, restarted_channels]; rfl
    subst hp
    rw [onFrame_own hl hf hn rfl hbody, hsync]
    rfl
  · rw [onFrame_own hl hf hn hp (t := s.setLease v { l with term := t }) (renew_of_granting hlease hx hterm p seq),
      syncOutputs_of_output (s := s) (t := s.setLease v _) fun _ => rfl]
    rfl

/-! ### SHED -/

theorem shedFrom_eq {s : State} {v : SlotNo} {l : Lease} (hl : s.lease? v = some l) (shed : Word) :
    s.shedFrom v shed = { s.setLease v (l.without shed) with channels := s.channelsLeft shed } :=
  modifyLease_eq_setLease (s := s.mapSet shed Channel.leave) hl _

/-- The channels that stay in the lease are as they were, so that a remaining BREAK can be looked for in either part. -/
theorem shedFrom_anyBreak (s : State) (v : SlotNo) (set shed : Word) :
    (s.shedFrom v shed).anyBreak (set &&& ~~~shed) = s.anyBreak (set &&& ~~~shed) := by
  rw [Bool.eq_iff_iff, anyBreak_iff, anyBreak_iff]
  refine exists_congr fun c => and_congr_right fun hc => ?_
  obtain ⟨-, hout⟩ : inSet set c = true ∧ inSet shed c = false := by simpa using hc
  rw [shedFrom_channel, hout]
  rfl

theorem anyBreak_eq_false (s : State) (set : Word) :
    s.anyBreak set = false ↔ ∀ c, inSet set c = true → (s.channel c).state.isBreak = false := by
  simp [← Bool.not_eq_true, anyBreak_iff]

/-- What SHED writes, as one update, and the hold of a GRANTING lease left with no channel in BREAK (R78, R79). -/
theorem shedChannels_update {s : State} {v : SlotNo} {l : Lease} (hl : s.lease? v = some l) (shed : Word) :
    s.shedChannels shed v l =
      let s1 : State := { s.setLease v (l.without shed) with
        channels := if l.state = .waiting then s.channels else s.channelsLeft shed }
      if l.state = .granting ∧ ∀ c, inSet (l.set &&& ~~~shed) c = true → (s.channel c).state.isBreak = false
        then s1.holdLease none v else s1 := by
  have hleft := shedFrom_eq hl shed
  unfold State.shedChannels
  cases hx : l.state with
  | waiting => exact modifyLease_eq_setLease hl _
  | held => exact hleft
  | suspended => exact hleft
  | granting =>
    have hbreak := shedFrom_anyBreak s v l.set shed
    by_cases hb : ∀ c, inSet (l.set &&& ~~~shed) c = true → (s.channel c).state.isBreak = false
    · have hnone : ¬(s.shedFrom v shed).anyBreak (l.set &&& ~~~shed) = true := by
        rw [hbreak, Bool.not_eq_true]
        exact (anyBreak_eq_false s _).2 hb
      exact (if_neg hnone).trans ((congrArg (State.holdLease · none v) hleft).trans (if_pos ⟨rfl, hb⟩).symm)
    · have hsome : (s.shedFrom v shed).anyBreak (l.set &&& ~~~shed) = true := by
        rw [hbreak, ← Bool.not_eq_false]
        exact mt (anyBreak_eq_false s _).1 hb
      exact (if_pos hsome).trans (hleft.trans (if_neg fun h => hb h.2).symm)

theorem shedChannels_framed (s : State) (p : HostNo) (n : Nat) (shed : Word) (v : SlotNo) (l : Lease) :
    (s.framed p n).shedChannels shed v l = (s.shedChannels shed v l).framed p n := by
  unfold State.shedChannels State.framed
  cases l.state with
  | waiting => rfl
  | held => rfl
  | suspended => rfl
  | granting =>
    dsimp only
    rw [← holdUnlessBreak_modifyPort, ← holdUnlessBreak_modifyPort]
    rfl

/-- SHED past its checks: the channels leave, and the pass runs (R77 to R79). -/
theorem shed_of_checks {s : State} {l : Lease} {shed : Word} (hs : subset shed l.set = true) (h0 : shed ≠ 0)
    (hall : shed ≠ l.set) (p : HostNo) (seq : Byte) (v : SlotNo) :
    s.shed p seq shed v l = ((s.shedChannels shed v l).pass none).answer p seq .ok
      (bytesOfWord (l.set &&& ~~~shed) ++ [((s.shedChannels shed v l).pass none).leaseStateByte v]) :=
  (if_neg (ne_false_of_eq_true hs)).trans (if_neg (not_or.2 ⟨h0, hall⟩))

/-- Settles O19: by the update that SHED writes; its pass and its reply neither read nor change the port. -/
theorem shedShrinksLease : Obligations.ShedShrinksLease := by
  intro p n seq slot gen shed v l s hl hf hn hp hs h0 hall rest l' s1 s2 w
  refine congrArg Host.Outcome.next (onFrame_own hl hf hn hp ?_)
  have hw : (s.shedChannels shed v l).pass none = w := congrArg (State.pass · none) (shedChannels_update hn.2.1 shed)
  rw [shed_of_checks hs h0 hall, shedChannels_framed, pass_framed, hw]
  rfl

end Sys2Proof.Machine
end

section
/-! PROOFS. The rows of the inhibit input: a change of the line, assertion and release (R106, R107, R110). -/

namespace Sys2Proof.Machine

/-! ### The line -/

/-- Settles O41: by whether the level is the one at which the line stands. -/
theorem inhibitLineMoves : Obligations.InhibitLineMoves := by
  intro level s
  refine congrArg (fun i => Host.Outcome.next { s with inhibit := i }) ?_
  unfold InhibitInput.lineTo
  by_cases h : level = s.inhibit.line <;> simp [h]

/-! ### Assertion -/

theorem assertInhibit_channel_eq (s : State) (c : ChannelNo) :
    s.assertInhibit.channel c = { s.channel c with state := (s.channel c).suspend } := by
  rw [State.assertInhibit, notifyAll_channel, mapLeaseStates_channel, mapChannels_channel, qualify_channel]

theorem mapLeaseStates_slot (s : State) (f : LeaseState → LeaseState) (v : SlotNo) :
    (s.mapLeaseStates f).slot v =
      { s.slot v with lease := (s.lease? v).map fun l => { l with state := f l.state } } := bank_get _ v

/-- At assertion a HELD lease alone changes (R107). -/
theorem suspend_lease (l : Lease) : { l with state := l.state.suspend } =
    if l.state = .held then { l with state := .suspended } else l := by
  obtain ⟨holder, state⟩ := l
  cases state <;> rfl

/-- At release a SUSPENDED lease alone changes (R110). -/
theorem resume_lease (l : Lease) : { l with state := l.state.resume } =
    if l.state = .suspended then { l with state := .held } else l := by
  obtain ⟨holder, state⟩ := l
  cases state <;> rfl

theorem assertInhibit_slot (s : State) (v : SlotNo) : s.assertInhibit.slot v =
    { s.slot v with lease := (s.lease? v).map fun l => if l.state = .held then { l with state := .suspended } else l } := by
  refine (mapLeaseStates_slot _ _ v).trans ?_
  simp only [suspend_lease]
  rfl

/-- The row does what its qualified event does (R106). -/
theorem exec_assertion {s : State} (hr : s.resetControl.active = false) (hd : s.inhibit.assertDue = true) :
    exec .assertion s = .next (syncOutputs s s.assertInhibit) :=
  congrArg Host.Outcome.next ((event_of_running hr _).trans (congrArg (syncOutputs s) (if_pos hd)))

theorem exec_assertion_not_due {s : State} (hd : s.inhibit.assertDue = false) : exec .assertion s = .next s :=
  congrArg Host.Outcome.next (event_of_fixed (if_neg (by simp [hd])))

/-- Settles O42: the end of the event gives each channel that assertion takes to REARM its due (R5, R120). -/
theorem assertionSuspends : Obligations.AssertionSuspends := by
  intro s hr
  refine ⟨fun h => exec_assertion_not_due ?_, fun he hl ht => ⟨_, exec_assertion hr ((assertDue_iff _).2 ⟨he, hl, ht⟩),
    ?_, fun c => ?_, fun v => assertInhibit_slot s v, rfl, rfl, rfl, rfl, rfl, rfl, rfl, rfl⟩⟩
  · rw [← Bool.not_eq_true, assertDue_iff]
    rintro ⟨he, hl, ht⟩
    simp [he, hl, Nat.not_lt.2 ht] at h
  · exact congrArg (InhibitInput.mk true 0) hl
  · refine (syncOutputs_channel_goes (assertInhibit_channel_eq s c)).trans (congrArg _ ?_)
    unfold Channel.suspend
    cases (s.channel c).state <;> rfl

/-! ### Release -/

theorem exec_releaseOfInhibit_not_due {s : State} (hd : s.inhibit.releaseDue = false) :
    exec .releaseOfInhibit s = .next s :=
  congrArg Host.Outcome.next (event_of_fixed (if_neg (by simp [hd])))

/-- Release touches no channel, so its event ends as its work leaves it (R5, R110). -/
theorem exec_releaseOfInhibit {s : State} (hr : s.resetControl.active = false) (hd : s.inhibit.releaseDue = true) :
    exec .releaseOfInhibit s = .next s.liftInhibit := by
  have hwork : (if s.inhibit.releaseDue then s.liftInhibit else s) = s.liftInhibit := if_pos hd
  exact congrArg Host.Outcome.next ((event_of_output hr fun c => by rw [hwork]; rfl).trans hwork)

/-- Settles O43: by the equation of the lease record at release. -/
theorem releaseResumes : Obligations.ReleaseResumes := by
  intro s hr
  refine ⟨fun h => exec_releaseOfInhibit_not_due ?_, fun he hl ht => ?_⟩
  · rw [← Bool.not_eq_true, releaseDue_iff]
    rintro ⟨he, hl, ht⟩
    simp [he, hl, Nat.not_lt.2 ht] at h
  · rw [exec_releaseOfInhibit hr ((releaseDue_iff _).2 ⟨he, hl, ht⟩), ← hl]
    simp only [← resume_lease]
    rfl

end Sys2Proof.Machine
end

section
/-! PROOFS. What stands while inhibit is in effect stays so through every row but the release: no request of the channel stage makes
a channel DRIVEN but the hold and the drive, and neither does under inhibit (R10, R11, R107). -/

namespace Sys2Proof.Machine

/-! ### The channel requests -/

theorem reserve_not_driven {ch : Channel} (h : ch.state.isDriven = false) (w : SlotNo) :
    (ch.reserve w).isDriven = false := by
  unfold Channel.reserve
  split <;> simp_all [ChannelState.isDriven]

/-- A hold under inhibit makes no channel DRIVEN (R10). -/
theorem hold_not_driven {ch : Channel} (h : ch.state.isDriven = false) (w : SlotNo) (level : Level) :
    (ch.hold w true level).isDriven = false := by
  unfold Channel.hold
  split <;> simp_all [ChannelState.isDriven]

theorem leave_not_driven (ch : Channel) : ch.leave.isDriven = false := by
  unfold Channel.leave
  split
  · split <;> rfl
  all_goals rfl

theorem handOver_not_driven (ch : Channel) (w : SlotNo) : (ch.handOver w).isDriven = false := by
  unfold Channel.handOver
  split
  · split <;> rfl
  all_goals rfl

theorem endBreak_not_driven {ch : Channel} (h : ch.state.isDriven = false) : ch.endBreak.isDriven = false := by
  unfold Channel.endBreak
  split <;> simp_all [ChannelState.isDriven]

theorem suspend_not_driven (ch : Channel) : ch.suspend.isDriven = false := by
  unfold Channel.suspend
  split <;> rfl

/-- A channel out of lockout is FREE or stands as it was (R129, R130). -/
theorem unlock_not_driven {x : ChannelState} (h : x.isDriven = false) :
    (if x = .lockedOut then ChannelState.free else x).isDriven = false := by
  split
  · rfl
  · exact h

theorem configure_not_driven {ch : Channel} (h : ch.state.isDriven = false) (k : ChannelConfig) :
    (ch.configure k).state.isDriven = false := by
  unfold Channel.configure
  split
  · exact unlock_not_driven h
  · split
    · exact h
    · exact h
    · dsimp only
      split
      · rfl
      · exact h

theorem tick_isDriven (x : ChannelState) : x.tick.isDriven = x.isDriven := by cases x <;> rfl

/-! ### The updates -/

/-- Inhibit is in effect, no channel is DRIVEN and no lease is HELD (R107). -/
def State.inhibited (s : State) : Prop :=
  s.inhibit.inEffect = true ∧ (∀ c, (s.channel c).state.isDriven = false) ∧ ∀ v, ∀ l ∈ s.lease? v, l.state ≠ .held

/-- What the law of inhibit says of a part in which inhibit is in effect. -/
theorem inhibited_iff {s : State} : s.inhibited ↔ s.inhibit.inEffect = true ∧ s.inhibitLaw :=
  ⟨fun ⟨hi, h⟩ => ⟨hi, fun _ => h⟩, fun ⟨hi, h⟩ => ⟨hi, h hi⟩⟩

theorem inhibited_mapChannels {s : State} (h : s.inhibited) {f : ChannelNo → Channel → Channel}
    (hf : ∀ c {ch}, ch.state.isDriven = false → (f c ch).state.isDriven = false) : (s.mapChannels f).inhibited := by
  obtain ⟨hi, hc, hl⟩ := h
  refine ⟨hi, fun c => ?_, hl⟩
  rw [mapChannels_channel]
  exact hf c (hc c)

/-- The channels of `q` change their states. -/
theorem inhibited_mapStates {s : State} (h : s.inhibited) (q : ChannelNo → Bool) {f : ChannelNo → Channel → ChannelState}
    (hf : ∀ c {ch}, ch.state.isDriven = false → (f c ch).isDriven = false) :
    (s.mapChannels fun c ch => if q c then { ch with state := f c ch } else ch).inhibited :=
  inhibited_mapChannels h fun c {ch} hch => by
    split
    · exact hf c hch
    · exact hch

theorem inhibited_mapSet {s : State} (h : s.inhibited) (set : Word) {f : Channel → ChannelState}
    (hf : ∀ {ch : Channel}, ch.state.isDriven = false → (f ch).isDriven = false) : (s.mapSet set f).inhibited :=
  inhibited_mapStates h (inSet set) fun _ => hf

theorem inhibited_modifyChannel {s : State} (h : s.inhibited) (c : ChannelNo) {f : Channel → Channel}
    (hf : (s.channel c).state.isDriven = false → (f (s.channel c)).state.isDriven = false) :
    (s.modifyChannel c f).inhibited := by
  obtain ⟨hi, hc, hl⟩ := h
  exact ⟨hi, fun d => modifyChannel_keeps (R := fun ch => ch.state.isDriven = false) (hc d) hf, hl⟩

theorem inhibited_modifyLease {s : State} (h : s.inhibited) (v : SlotNo) {f : Lease → Lease}
    (hf : ∀ l, l.state ≠ .held → (f l).state ≠ .held) : (s.modifyLease v f).inhibited := by
  obtain ⟨hi, hc, hl⟩ := h
  refine ⟨hi, hc, fun u l hu => ?_⟩
  rw [modifyLease_lease] at hu
  split at hu
  · obtain ⟨m, hm, rfl⟩ := Option.map_eq_some_iff.1 hu
    exact hf m (hl u m hm)
  · exact hl u l hu

theorem inhibited_freeSlot {s : State} (h : s.inhibited) (v : SlotNo) : (s.freeSlot v).inhibited := by
  obtain ⟨hi, hc, hl⟩ := h
  refine ⟨hi, hc, fun u l hu => ?_⟩
  rw [freeSlot_lease] at hu
  split at hu
  · cases hu
  · exact hl u l hu

/-- A lease that is not HELD enters slot `v`. -/
theorem inhibited_enter {s : State} (h : s.inhibited) (v : SlotNo) {l : Lease} (hx : l.state ≠ .held) :
    (s.modifySlot v fun x => { x with lease := some l }).inhibited := by
  obtain ⟨hi, hc, hl⟩ := h
  refine ⟨hi, hc, fun u m hu => ?_⟩
  rw [State.lease?, modifySlot_slot] at hu
  split at hu
  · cases hu
    exact hx
  · exact hl u m hu

theorem inhibited_of_sameParts {s t : State} (h : s.sameParts t) (hs : s.inhibited) : t.inhibited := by
  obtain ⟨hi, hc, hl⟩ := hs
  exact ⟨h.inEffect.trans hi, fun c => by rw [sameParts_channel h]; exact hc c, fun v => by
    rw [sameParts_lease h]; exact hl v⟩

/-! ### The shared operations -/

theorem inhibited_takeOut {s : State} (h : s.inhibited) (v : SlotNo) : (s.takeOut v).inhibited := by
  unfold State.takeOut
  split
  · exact h
  · split
    · exact h
    · exact inhibited_mapSet h _ fun _ => leave_not_driven _

theorem inhibited_endQuietly {s : State} (h : s.inhibited) (v : SlotNo) : (s.endQuietly v).inhibited :=
  inhibited_freeSlot (inhibited_takeOut h v) v

theorem inhibited_endLease {s : State} (h : s.inhibited) (v : SlotNo) (n : Notice) : (s.endLease v n).inhibited := by
  unfold State.endLease
  split
  · exact h
  · exact inhibited_endQuietly h v

theorem inhibited_warningCheck {s : State} (h : s.inhibited) (v : SlotNo) : (s.warningCheck v).inhibited := by
  unfold State.warningCheck
  split
  · exact h
  · split
    · exact inhibited_modifyLease h v (f := fun l => { l with warned := true }) fun _ => id
    · exact h

/-- A lease that is held under inhibit is SUSPENDED, and its channels are REARM (R10, R62). -/
theorem inhibited_holdLease {s : State} (h : s.inhibited) (own : Option SlotNo) (v : SlotNo) :
    (s.holdLease own v).inhibited := by
  unfold State.holdLease
  split
  · exact h
  · rename_i l _
    have hi : s.inhibit.inEffect = true := h.1
    rw [hi]
    dsimp only
    refine inhibited_warningCheck ?_ v
    have hheld := inhibited_mapStates (inhibited_modifyLease h v (f := Lease.heldRecord true) fun _ _ => nofun) (inSet l.set)
      (f := fun c ch => ch.hold v true (levelOf l.initial c)) fun _ _ hch => hold_not_driven hch v _
    split <;> exact hheld

theorem inhibited_holdUnlessBreak {s : State} (h : s.inhibited) (own : Option SlotNo) (v : SlotNo) (set : Word) :
    (s.holdUnlessBreak own v set).inhibited := by
  unfold State.holdUnlessBreak
  split
  · exact h
  · exact inhibited_holdLease h own v

theorem inhibited_preempt {s : State} (h : s.inhibited) (w : SlotNo) (wset : Word) (v : SlotNo) :
    (State.preempt w wset s v).inhibited := by
  unfold State.preempt
  split
  · exact h
  · rename_i l _
    have hleft := inhibited_mapStates h (inSet l.set) (f := fun c ch => if inSet wset c then ch.handOver w else ch.leave)
      fun c ch _ => by
        split
        · exact handOver_not_driven ch w
        · exact leave_not_driven ch
    dsimp only
    split
    · exact inhibited_modifyLease hleft v (f := Lease.requeuedRecord) fun _ _ => nofun
    · exact inhibited_freeSlot hleft v

theorem inhibited_preempts (w : SlotNo) (wset : Word) (vs : List SlotNo) {s : State} (h : s.inhibited) :
    (vs.foldl (State.preempt w wset) s).inhibited := by
  induction vs generalizing s with
  | nil => exact h
  | cons v vs ih => exact ih (inhibited_preempt h w wset v)

theorem inhibited_reserveSet {s : State} (h : s.inhibited) (w : SlotNo) (set : Word) : (s.reserveSet w set).inhibited := by
  have hgranted : ((s.dequeue w).modifyLease w Lease.grantedRecord).inhibited :=
    inhibited_modifyLease (s := s.dequeue w) h w fun _ _ => nofun
  exact inhibited_mapSet hgranted set fun hch => reserve_not_driven hch w

theorem inhibited_grant {s : State} (h : s.inhibited) (own : Option SlotNo) (w : SlotNo) : (s.grant own w).inhibited := by
  unfold State.grant
  split
  · exact h
  · exact inhibited_holdUnlessBreak (inhibited_reserveSet (inhibited_preempts w _ _ h) w _) own w _

theorem inhibited_pass {s : State} (h : s.inhibited) (own : Option SlotNo) : (s.pass own).inhibited :=
  pass_induct (P := State.inhibited) own (fun _ _ w ht _ _ => inhibited_grant ht own w) h

/-! ### The commands -/

theorem inhibited_request {s : State} (h : s.inhibited) (p : HostNo) (seq : Byte) (set levels : Word) (comp : Byte)
    (term maxWait tag : Word) : (s.request p seq set levels comp term maxWait tag).inhibited := by
  have outcome {t : State} (ht : t.inhibited) (v : SlotNo) (hd : Handle) : (t.requestOutcome p seq v hd).inhibited := by
    unfold State.requestOutcome
    split
    · split
      case h_4 =>
        split
        · exact ht
        · exact inhibited_freeSlot (s := t.dequeue v) ht v
      all_goals exact ht
    · exact ht
  have entered {l : Lease} (hx : l.state = .waiting) (v : SlotNo) : (s.enterRequest v l).inhibited :=
    inhibited_pass (s := (s.modifySlot v _).enqueueBack v l.priority) (inhibited_enter h v (by simp [hx])) _
  unfold State.request
  split
  · split
    · exact h
    split
    · exact h
    split
    · exact h
    split
    · exact h
    split
    · exact h
    · exact outcome (entered rfl _) _ _
  · exact h

theorem inhibited_renew {s : State} (h : s.inhibited) (p : HostNo) (seq : Byte) (newTerm : Word) (v : SlotNo) (l : Lease) :
    (s.renew p seq newTerm v l).inhibited := by
  have renewed (t : Nat) : ((s.modifyLease v (Lease.renewed t)).warningCheck v).inhibited :=
    inhibited_warningCheck (inhibited_modifyLease h v fun _ hx => by exact hx) v
  unfold State.renew
  split
  · exact h
  · dsimp only
    split
    · exact h
    · exact inhibited_modifyLease h v fun _ => id
    · exact renewed _
    · exact renewed _

/-- A drive finds no HELD lease under inhibit, so that it drives no channel (R72, R74). -/
theorem inhibited_drive {s : State} (h : s.inhibited) (p : HostNo) (seq : Byte) (mask levels : Word) {v : SlotNo} {l : Lease}
    (hl : s.lease? v = some l) : (s.drive p seq mask levels v l).inhibited := by
  have pending : (s.modifyLease v fun l => { l with initial := mergeLevels l.initial mask levels }).inhibited :=
    inhibited_modifyLease h v fun _ => id
  unfold State.drive
  split
  · exact h
  · split
    · exact h
    · rename_i hx
      obtain ⟨-, -, hheld⟩ := h
      exact absurd hx (hheld v l hl)
    · exact pending
    · exact pending

theorem inhibited_shed {s : State} (h : s.inhibited) (p : HostNo) (seq : Byte) (shed : Word) (v : SlotNo) (l : Lease) :
    (s.shed p seq shed v l).inhibited := by
  have hleft : (s.shedFrom v shed).inhibited :=
    inhibited_modifyLease (inhibited_mapSet h shed fun _ => leave_not_driven _) v fun _ => id
  have hshed : (s.shedChannels shed v l).inhibited := by
    unfold State.shedChannels
    split
    · exact inhibited_modifyLease h v fun _ => id
    · exact hleft
    · exact hleft
    · exact inhibited_holdUnlessBreak hleft _ _ _
  unfold State.shed
  split
  · exact h
  · split
    · exact h
    · exact inhibited_pass hshed _

theorem inhibited_alter {s : State} (h : s.inhibited) (p : HostNo) (seq comp : Byte) (v : SlotNo) (l : Lease) :
    (s.alter p seq comp v l).inhibited := by
  have written (pr : Priority) (preemptible requeue : Bool) : (s.writeCompetition v l pr preemptible requeue).inhibited := by
    have hlease : (s.modifyLease v (Lease.competing pr preemptible requeue)).inhibited := inhibited_modifyLease h v fun _ => id
    rw [writeCompetition_eq]
    split <;> exact hlease
  unfold State.alter
  split
  · exact h
  · split
    · exact h
    · exact inhibited_pass (written _ _ _) _

theorem inhibited_releaseAll {s : State} (h : s.inhibited) (p : HostNo) (seq : Byte) : (s.releaseAll p seq).inhibited := by
  have ended (vs : List SlotNo) {u : State} (hu : u.inhibited) : (vs.foldl State.endQuietly u).inhibited := by
    induction vs generalizing u with
    | nil => exact hu
    | cons v vs ih => exact ih (inhibited_endQuietly hu v)
  exact inhibited_pass (ended _ h) _

theorem inhibited_revoke {s : State} (h : s.inhibited) (p : HostNo) (seq slot gen : Byte) :
    (s.revoke p seq slot gen).inhibited := by
  unfold State.revoke
  split
  · exact h
  · split
    · exact h
    · exact inhibited_pass (inhibited_endLease h _ _) _

theorem inhibited_clearFault {s : State} (h : s.inhibited) (p : HostNo) (seq channel : Byte) :
    (s.clearFault p seq channel).inhibited := by
  unfold State.clearFault
  split
  · exact h
  split
  · exact h
  split
  · exact h
  split
  · exact h
  · exact inhibited_pass (inhibited_modifyChannel h _ unlock_not_driven) _

theorem inhibited_setChannel {s : State} (h : s.inhibited) (p : HostNo)
    (seq channel flags breakTime settleTime threshold : Byte) :
    (s.setChannel p seq channel flags breakTime settleTime threshold).inhibited := by
  unfold State.setChannel
  split
  · exact h
  split
  · rename_i c k _ _
    split
    · exact h
    split
    · exact h
    have hs : (s.modifyChannel c (Channel.configure k)).inhibited :=
      inhibited_modifyChannel h c fun hch => configure_not_driven hch k
    dsimp only
    split
    · exact inhibited_pass hs _
    · exact hs
  · exact h

theorem inhibited_clearTable {s : State} (h : s.inhibited) : s.clearTable.inhibited := by
  refine ⟨h.1, fun c => ?_, fun v l hl => ?_⟩
  · rw [clearTable_channel]
    exact leave_not_driven _
  · rw [State.lease?, clearTable_slot, clear_lease] at hl
    cases hl

theorem inhibited_tableReset {s : State} (h : s.inhibited) (p : HostNo) (seq : Byte) : (s.tableReset p seq).inhibited := by
  unfold State.tableReset
  split
  · exact h
  · exact inhibited_clearTable h

/-! ### The timed events -/

theorem inhibited_termStep {s : State} (h : s.inhibited) (v : SlotNo) : (s.termStep v).inhibited := by
  unfold State.termStep
  split
  · exact h
  · split
    · split
      · exact inhibited_pass (inhibited_endLease h _ _) _
      · exact inhibited_warningCheck (inhibited_modifyLease h v fun _ hx => by exact hx) v
    · exact h

theorem inhibited_expiryEvent {s : State} (h : s.inhibited) (v : SlotNo) : (s.expiryEvent v).inhibited := by
  unfold State.expiryEvent
  split
  · exact h
  · split
    · exact inhibited_pass (inhibited_endLease h _ _) _
    · exact h

theorem inhibited_waitStep {s : State} (h : s.inhibited) (v : SlotNo) : (s.waitStep v).inhibited := by
  unfold State.waitStep
  split
  · exact h
  · split
    · split
      · exact inhibited_pass (inhibited_endLease h _ _) _
      · exact inhibited_modifyLease h v fun _ => id
    · exact h

theorem inhibited_timeoutEvent {s : State} (h : s.inhibited) (v : SlotNo) : (s.timeoutEvent v).inhibited := by
  unfold State.timeoutEvent
  split
  · exact h
  · split
    · exact inhibited_pass (inhibited_endLease h _ _) _
    · exact h

theorem inhibited_endBreak {s : State} (h : s.inhibited) (c : ChannelNo) (link : Option SlotNo) :
    (s.endBreak c link).inhibited := by
  have hc : (s.modifyChannel c fun ch => { ch with state := ch.endBreak }).inhibited :=
    inhibited_modifyChannel h c endBreak_not_driven
  unfold State.endBreak State.breakEnded
  split
  · exact inhibited_pass hc _
  · split
    · exact hc
    · exact inhibited_holdUnlessBreak hc _ _ _

theorem inhibited_breakCountdown {s : State} (h : s.inhibited) (c : ChannelNo) : (s.breakCountdown c).inhibited := by
  unfold State.breakCountdown
  split
  · split
    · split
      · exact inhibited_endBreak h c _
      · exact inhibited_modifyChannel h c fun _ => rfl
    · exact h
  all_goals exact h

theorem inhibited_breakEndReserved {s : State} (h : s.inhibited) (c : ChannelNo) : (s.breakEndReserved c).inhibited := by
  unfold State.breakEndReserved
  split
  · split
    · exact inhibited_endBreak h c _
    · exact h
  all_goals exact h

theorem inhibited_breakEndUnreserved {s : State} (h : s.inhibited) (c : ChannelNo) :
    (s.breakEndUnreserved c).inhibited := by
  unfold State.breakEndUnreserved
  split
  · split
    · exact inhibited_endBreak h c _
    · exact h
  all_goals exact h

theorem inhibited_settleTick {s : State} (h : s.inhibited) : s.settleTick.inhibited := inhibited_mapChannels h fun _ => id

/-! ### Supervision -/

theorem inhibited_modifyFault {s : State} (h : s.inhibited) (c : ChannelNo) (f : Channel → FaultRecord) :
    (s.modifyChannel c fun ch => { ch with fault := f ch }).inhibited := inhibited_modifyChannel h c id

theorem inhibited_lockOut {s : State} (h : s.inhibited) (c : ChannelNo) : (s.lockOut c).inhibited :=
  inhibited_modifyChannel h c fun _ => rfl

theorem inhibited_revokeForFault {s : State} (h : s.inhibited) (c : ChannelNo) (kind : FaultKind) (v : SlotNo) (l : Lease) :
    (s.revokeForFault c kind v l).inhibited := inhibited_pass (inhibited_endLease h v _) _

theorem inhibited_reportFault {s : State} (h : s.inhibited) (c : ChannelNo) (kind : FaultKind)
    (linked : Option (SlotNo × Lease)) : (s.reportFault c kind linked).inhibited := by
  unfold State.reportFault
  split <;> exact h

theorem inhibited_applyPolicy {s : State} (h : s.inhibited) (c : ChannelNo) (kind : FaultKind)
    (linked : Option (SlotNo × Lease)) : (s.applyPolicy c kind linked).inhibited := by
  unfold State.applyPolicy
  split
  · exact h
  · exact h
  · exact inhibited_revokeForFault h c kind _ _
  · exact inhibited_lockOut h c
  · exact inhibited_revokeForFault (inhibited_lockOut h c) c kind _ _

theorem inhibited_countDisagreement {s : State} (h : s.inhibited) (c : ChannelNo) (n : Nat) :
    (s.countDisagreement c n).inhibited := by
  unfold State.countDisagreement
  dsimp only
  split
  · exact inhibited_applyPolicy (inhibited_reportFault (inhibited_modifyFault h c _) c _ _) c _ _
  · exact inhibited_modifyFault h c _

theorem inhibited_compare {s : State} (h : s.inhibited) (c : ChannelNo) (disagrees : Bool) :
    (s.compare c disagrees).inhibited := by
  unfold State.compare
  dsimp only
  split
  · exact inhibited_modifyFault h c _
  · split
    · exact inhibited_countDisagreement h c _
    · exact h
  · split
    · exact inhibited_countDisagreement h c _
    · exact inhibited_modifyFault h c _

theorem inhibited_sweepVisit {s : State} (h : s.inhibited) : s.sweepVisit.inhibited := by
  unfold State.sweepVisit State.visit
  dsimp only
  split
  · exact inhibited_compare (s := { s with sweep := s.sweep + 1 }) h _ _
  · exact h

/-! ### Every row and every step -/

/-- Assertion leaves no channel DRIVEN and no lease HELD (R107). -/
theorem assertInhibit_inhibited (s : State) : s.assertInhibit.inhibited := by
  refine ⟨rfl, fun c => ?_, fun v l hl => ?_⟩
  · rw [assertInhibit_channel_eq]
    exact suspend_not_driven _
  · rw [State.lease?, assertInhibit_slot] at hl
    obtain ⟨m, -, rfl⟩ := Option.map_eq_some_iff.1 hl
    split
    · nofun
    · assumption

/-- Under inhibit no row but its release makes a channel DRIVEN or a lease HELD. -/
theorem inhibited_perform {s : State} (h : s.inhibited) (i : Instr) (hi : i ≠ .releaseOfInhibit) :
    (s.perform i).inhibited := by
  have own {p : HostNo} {seq slot gen : Byte} {body : SlotNo → Lease → State}
      (hb : ∀ v l, s.lease? v = some l → (body v l).inhibited) : (s.onOwnLease p seq slot gen body).inhibited :=
    onOwnLease_keeps (fun _ => h) hb
  cases i with
  | noop | queryStatus | frameStart | frameError | deviceReset | resetComplete | inhibitLineChange => exact h
  | request p _ seq set levels comp term maxWait tag => exact inhibited_request h p seq set levels comp term maxWait tag
  | renew p _ seq slot gen newTerm => exact own fun v l _ => inhibited_renew h p seq newTerm v l
  | drive p _ seq slot gen mask levels => exact own fun _ _ hl => inhibited_drive h p seq mask levels hl
  | shed p _ seq slot gen set => exact own fun v l _ => inhibited_shed h p seq set v l
  | alter p _ seq slot gen comp => exact own fun v l _ => inhibited_alter h p seq comp v l
  | release p _ seq slot gen => exact own fun v _ _ => inhibited_pass (inhibited_endQuietly h v) _
  | releaseAll p _ seq => exact inhibited_releaseAll h p seq
  | queryLease | listLeases | queryChannel | readHost | readNotice | setNotices =>
    simp only [State.perform, State.queryLease, State.listLeases, State.queryChannel, State.readHost, State.readNotice,
      State.setNotices]
    split <;> exact h
  | setHost p _ seq host quota ceiling rights =>
    unfold State.perform State.setHost
    dsimp only
    repeat' split
    all_goals exact h
  | clearFault p _ seq channel => exact inhibited_clearFault h p seq channel
  | setChannel p _ seq channel flags breakTime settleTime threshold =>
    exact inhibited_setChannel h p seq channel flags breakTime settleTime threshold
  | revoke p _ seq slot gen => exact inhibited_revoke h p seq slot gen
  | tableReset p _ seq => exact inhibited_tableReset h p seq
  | termStep v => exact inhibited_termStep h v
  | expiry v => exact inhibited_expiryEvent h v
  | waitStep v => exact inhibited_waitStep h v
  | waitTimeout v => exact inhibited_timeoutEvent h v
  | breakEndReserved c => exact inhibited_breakEndReserved h c
  | breakEndUnreserved c => exact inhibited_breakEndUnreserved h c
  | breakCountdown c => exact inhibited_breakCountdown h c
  | sweepVisit => exact inhibited_sweepVisit h
  | settleTimerTick => exact inhibited_settleTick h
  | releaseOfInhibit => exact absurd rfl hi
  | assertion =>
    unfold State.perform
    dsimp only
    split
    · exact assertInhibit_inhibited s
    · exact h

/-- The work of a row keeps the law of inhibit: it was in effect before, unless assertion has brought it (R107, R110). -/
theorem perform_inhibitLaw {s : State} (h : s.inhibitLaw) (i : Instr) : (s.perform i).inhibitLaw := by
  by_cases ha : i = .assertion
  · subst ha
    unfold State.perform
    dsimp only
    split
    · exact (inhibited_iff.1 (assertInhibit_inhibited s)).2
    · exact h
  by_cases hr : i = .releaseOfInhibit
  · subst hr
    unfold State.perform
    dsimp only
    split
    · exact fun hi => by cases hi
    · exact h
  intro hi
  have hbefore : s.inhibit.inEffect = true := ((leavesAlone_perform s i).inEffect ha hr).symm.trans hi
  exact (inhibited_perform ⟨hbefore, h hbefore⟩ i hr).2

theorem inhibitLaw_of_sameParts {s t : State} (h : s.sameParts t) (hs : s.inhibitLaw) : t.inhibitLaw := fun hi =>
  have hbefore : s.inhibit.inEffect = true := h.inEffect.symm.trans hi
  (inhibited_of_sameParts h ⟨hbefore, hs hbefore⟩).2

/-- The end of an event changes no channel's state and no lease (R4, R5). -/
theorem syncOutputs_inhibitLaw {s t : State} (h : t.inhibitLaw) : (syncOutputs s t).inhibitLaw := fun hi => by
  obtain ⟨hc, hl⟩ := h hi
  exact ⟨fun c => by rw [syncOutputs_channel_state]; exact hc c, hl⟩

theorem tick_state (l : Lease) : l.tick.state = l.state := by
  unfold Lease.tick
  split <;> rfl

theorem advance_inhibitLaw {s : State} (h : s.inhibitLaw) : s.advance.inhibitLaw := fun hi => by
  obtain ⟨hc, hl⟩ := h hi
  refine ⟨fun c => ?_, fun v l hv => ?_⟩
  · rw [advance_channel, tick_isDriven]
    exact hc c
  · rw [advance_lease] at hv
    obtain ⟨m, hm, rfl⟩ := Option.map_eq_some_iff.1 hv
    rw [tick_state]
    exact hl v m hm

/-- After device reset inhibit is not in effect (R114, R160). -/
theorem completeReset_inhibitLaw (s : State) : s.completeReset.inhibitLaw := fun hi => by cases hi

/-- Settles O55: under inhibit every row but its release keeps channels undriven and leases unheld, a hold making them REARM and
SUSPENDED and a drive finding no HELD lease. -/
theorem inhibitLawKept : Obligations.InhibitLawKept := fun _ _ hs hst =>
  step_keeps (P := State.inhibitLaw) (Q := fun _ t => t.inhibitLaw) inhibitLaw_of_sameParts
    (fun {s} _ => completeReset_inhibitLaw s) advance_inhibitLaw (fun i {_} h => perform_inhibitLaw h i)
    syncOutputs_inhibitLaw hs hst

end Sys2Proof.Machine
end

section
/-! PROOFS. The supervision monitor: the visits of the sweep, the confirmed fault with its policy, and CLEAR_FAULT (R117 to R126,
R128, R129). -/

namespace Sys2Proof.Machine

/-! ### The visit -/

/-- The part when a visit samples its feedback: the FB lines stand at `fb` and the sweep has moved on (R6, R117). -/
def State.swept (s : State) (fb : Word) : State := { s with fb := fb, sweep := s.sweep + 1 }

/-- A row of the sweep, by what its visit does (R4, R117). -/
theorem exec_sweepVisit {s t : State} {fb : Word} (hr : s.resetControl.active = false)
    (hv : (s.swept fb).visit s.sweep = t) : exec (.sweepVisit fb) s = .next (syncOutputs s t) :=
  congrArg Host.Outcome.next ((event_of_running (s := s.sampleFb fb) hr _).trans (congrArg (syncOutputs s) hv))

/-- A row of the sweep whose visit leaves every output level as it was. -/
theorem exec_sweepVisit_of_output {s t : State} {fb : Word} (hr : s.resetControl.active = false)
    (hv : (s.swept fb).visit s.sweep = t) (ht : ∀ d, (t.channel d).output = (s.channel d).output) :
    exec (.sweepVisit fb) s = .next t := by
  rw [exec_sweepVisit hr hv, syncOutputs_of_output ht]

theorem visit_of_not_compared {s : State} {c : ChannelNo}
    (h : (s.channel c).config.feedback = false ∨ (s.channel c).settle < (s.channel c).config.settleTime) :
    s.visit c = s := by
  refine if_neg fun ⟨hfeedback, hsettled⟩ => ?_
  rcases h with h | h
  · simp [h] at hfeedback
  · exact absurd hsettled (Nat.not_le.2 h)

theorem visit_of_compared {s : State} {c : ChannelNo} (hf : (s.channel c).config.feedback = true)
    (ht : (s.channel c).config.settleTime ≤ (s.channel c).settle) :
    s.visit c = s.compare c (levelOf s.fb c != (s.channel c).output) := if_pos ⟨hf, ht⟩

/-! ### The comparison -/

/-- The fault record of channel `c` replaced by `f` of the channel. -/
def State.setFault (s : State) (c : ChannelNo) (f : Channel → FaultRecord) : State :=
  s.modifyChannel c fun ch => { ch with fault := f ch }

theorem setFault_channel_self (s : State) (c : ChannelNo) (f : Channel → FaultRecord) :
    (s.setFault c f).channel c = { s.channel c with fault := f (s.channel c) } := modifyChannel_channel_self s c _

/-- A fault record has no part in an output level (R3). -/
theorem setFault_output (s : State) (c d : ChannelNo) (f : Channel → FaultRecord) :
    ((s.setFault c f).channel d).output = (s.channel d).output := by
  rw [State.setFault, modifyChannel_channel]
  split <;> rfl

theorem compare_of_faulted {s : State} {c : ChannelNo} (h : (s.channel c).fault.state = .faulted) (b : Bool) :
    s.compare c b = s.setFault c fun ch => { ch.fault with present := b } := by
  simp only [State.compare, h]
  rfl

/-- The mismatch count that a disagreement leaves on a channel that is not FAULTED (R119). -/
def Channel.nextCount (ch : Channel) : Nat := if ch.fault.state = .healthy then 1 else ch.fault.count + 1

theorem compare_disagrees {s : State} {c : ChannelNo} (h : (s.channel c).fault.state ≠ .faulted) :
    s.compare c true = s.countDisagreement c (s.channel c).nextCount := by
  cases hx : (s.channel c).fault.state with
  | healthy => simp [State.compare, Channel.nextCount, hx]
  | suspect => simp [State.compare, Channel.nextCount, hx]
  | faulted => exact absurd hx h

theorem compare_agrees {s : State} {c : ChannelNo} (h : (s.channel c).fault.state ≠ .faulted) :
    s.compare c false =
      if (s.channel c).fault.state = .healthy then s else s.setFault c fun _ => FaultRecord.healthy := by
  cases hx : (s.channel c).fault.state with
  | healthy => simp [State.compare, hx]
  | suspect => simp [State.compare, State.setFault, hx]
  | faulted => exact absurd hx h

theorem countDisagreement_below {s : State} {c : ChannelNo} {n : Nat} (h : n < (s.channel c).config.threshold) :
    s.countDisagreement c n = s.setFault c fun ch =>
      { state := .suspect, count := n, kind := disagreementKind ch.output, present := false } :=
  (if_neg (Nat.not_le.2 h)).trans (modifyChannel_congr rfl)

theorem countDisagreement_confirms {s : State} {c : ChannelNo} {n : Nat} (h : (s.channel c).config.threshold ≤ n) :
    s.countDisagreement c n = s.confirm c (disagreementKind (s.channel c).output) n := if_pos h

/-- Settles O38: by whether the visit compares, and on a FAULTED channel by the table of R126. -/
theorem visitWithoutCount : Obligations.VisitWithoutCount := by
  intro fb s hr c ch s1
  refine ⟨fun h => exec_sweepVisit_of_output hr (visit_of_not_compared (s := s.swept fb) h) fun _ => rfl,
    fun hf ht hx => exec_sweepVisit_of_output hr ?_ (setFault_output s1 c · _)⟩
  rw [visit_of_compared (s := s.swept fb) hf ht, compare_of_faulted (s := s.swept fb) hx]
  exact modifyChannel_congr rfl

section visits
variable {s : State} {fb : Word} (hf : (s.channel s.sweep).config.feedback = true)
  (ht : (s.channel s.sweep).config.settleTime ≤ (s.channel s.sweep).settle)
  (hx : (s.channel s.sweep).fault.state ≠ .faulted)
include hf ht hx

/-- A visit that finds the levels different counts (R118, R119). -/
theorem visit_disagrees (hd : levelOf fb s.sweep ≠ (s.channel s.sweep).output) :
    (s.swept fb).visit s.sweep = (s.swept fb).countDisagreement s.sweep (s.channel s.sweep).nextCount := by
  have hb : (levelOf (s.swept fb).fb s.sweep != ((s.swept fb).channel s.sweep).output) = true := bne_iff_ne.2 hd
  rw [visit_of_compared (s := s.swept fb) hf ht, hb]
  exact compare_disagrees (s := s.swept fb) hx

/-- A visit that finds the levels equal leaves the channel HEALTHY (R118, R119). -/
theorem visit_agrees (hd : levelOf fb s.sweep = (s.channel s.sweep).output) :
    (s.swept fb).visit s.sweep = if (s.channel s.sweep).fault.state = .healthy then s.swept fb
      else (s.swept fb).setFault s.sweep fun _ => FaultRecord.healthy := by
  have hb : (levelOf (s.swept fb).fb s.sweep != ((s.swept fb).channel s.sweep).output) = false := bne_eq_false_iff_eq.2 hd
  rw [visit_of_compared (s := s.swept fb) hf ht, hb]
  exact compare_agrees (s := s.swept fb) hx

end visits

/-- Settles O39: by the result of the comparison, which changes no output level. -/
theorem visitCounts : Obligations.VisitCounts := by
  intro fb s hr c ch s1 n hf ht hx
  refine ⟨fun hd hn => ?_, fun hd => ?_⟩
  · exact exec_sweepVisit_of_output hr
      ((visit_disagrees hf ht hx hd).trans (countDisagreement_below (s := s.swept fb) hn)) (setFault_output s1 c · _)
  · refine exec_sweepVisit_of_output hr (visit_agrees hf ht hx hd) fun d => ?_
    split
    · rfl
    · exact setFault_output s1 c d _

/-! ### The confirmed fault -/

/-- The fault record at confirmation (R121). -/
def FaultRecord.confirmed (kind : FaultKind) (n : Nat) : FaultRecord :=
  { state := .faulted, count := n, kind := kind, present := true }

/-- The policy where no lease is linked: LATCH_OFF alone acts (R122 to R124). -/
theorem applyPolicy_unlinked (s : State) (c : ChannelNo) (kind : FaultKind) :
    s.applyPolicy c kind none = if (s.channel c).config.policy = .latchOff then s.lockOut c else s := by
  unfold State.applyPolicy
  cases (s.channel c).config.policy <;> rfl

theorem revokeForFault_eq {s : State} {v : SlotNo} {l : Lease} (hl : s.lease? v = some l) (c : ChannelNo) (kind : FaultKind) :
    s.revokeForFault c kind v l =
      ((s.withoutLease v l).notify l.holder (.revokedFault (s.handle v) l.tag c kind)).pass none := by
  rw [State.revokeForFault, endLease_eq hl]

/-- The policy on the linked lease: every policy but REPORT revokes it, LATCH_OFF with the channel locked out first (R122 to
R124). -/
theorem applyPolicy_linked {s : State} {v : SlotNo} {l : Lease} (hl : s.lease? v = some l) (c : ChannelNo) (kind : FaultKind) :
    s.applyPolicy c kind (some (v, l)) = if (s.channel c).config.policy = .report then s else
      (((if (s.channel c).config.policy = .latchOff then s.lockOut c else s).withoutLease v l).notify l.holder
        (.revokedFault (s.handle v) l.tag c kind)).pass none := by
  unfold State.applyPolicy
  cases (s.channel c).config.policy with
  | report => rfl
  | revoke => exact revokeForFault_eq hl c kind
  | latchOff => exact revokeForFault_eq (s := s.lockOut c) hl c kind

/-- A fault confirmed on a channel that no lease is linked to (R121 to R124). -/
theorem confirm_unlinked {s : State} {c : ChannelNo} (h : s.linkedLease c = none) (kind : FaultKind) (n : Nat) :
    s.confirm c kind n = ((s.setFault c fun _ => .confirmed kind n).notifyAll (.channelFault c kind none)).applyPolicy c
      kind none := by
  simp only [State.confirm, h]
  rfl

/-- A fault confirmed on a channel that the lease `l` in slot `v` owns or reserves (R121 to R124). -/
theorem confirm_linked {s : State} {c : ChannelNo} {v : SlotNo} {l : Lease} (h : s.linkedLease c = some (v, l))
    (kind : FaultKind) (n : Nat) :
    s.confirm c kind n = ((s.setFault c fun _ => .confirmed kind n).notify l.holder
      (.channelFault c kind (some (s.handle v, l.tag)))).applyPolicy c kind (some (v, l)) := by
  simp only [State.confirm, h]
  rfl

theorem linkedLease_of_unlinked {s : State} {c : ChannelNo} (h : (s.channel c).state.link = none) :
    s.linkedLease c = none := by
  simp [State.linkedLease, h]

theorem linkedLease_of_linked {s : State} {c : ChannelNo} {v : SlotNo} {l : Lease}
    (h : (s.channel c).state.link = some v) (hl : s.lease? v = some l) : s.linkedLease c = some (v, l) := by
  simp [State.linkedLease, h, hl]

/-- The end of an event reads of the part before it the output levels alone (R4). -/
theorem syncOutputs_of_outputs {s s' : State} (h : ∀ c, (s'.channel c).output = (s.channel c).output) (t : State) :
    syncOutputs s' t = syncOutputs s t := by
  apply state_ext <;> intros <;> try rfl
  simp only [syncOutputs_channel, h]

/-- An event that does nothing but lock channel `c` out (R5, R120, R124). -/
theorem syncOutputs_lockOut (t : State) (c : ChannelNo) :
    syncOutputs t (t.lockOut c) = t.modifyChannel c fun ch => ch.goes .lockedOut := by
  apply state_ext <;> intros <;> try rfl
  rename_i d
  rw [modifyChannel_channel]
  split
  · rename_i hd
    subst hd
    exact syncOutputs_channel_goes (modifyChannel_channel_self t d _)
  · rename_i hd
    exact syncOutputs_channel_same (modifyChannel_channel_ne t hd _)

/-- Settles O40: by whether a lease is linked, and then by the policy. -/
theorem visitConfirms : Obligations.VisitConfirms := by
  intro fb s hr _ c ch n kind fault s1 hf ht hx hd hn
  have hvisit : (s.swept fb).visit c = (s.swept fb).confirm c kind n :=
    (visit_disagrees hf ht hx hd).trans (countDisagreement_confirms (s := s.swept fb) hn)
  have hfault : s1.channel c = { ch with fault := fault } := setFault_channel_self (s.swept fb) c _
  have hpolicy : (s1.channel c).config.policy = ch.config.policy := by rw [hfault]
  have hout (d : ChannelNo) : (s1.channel d).output = (s.channel d).output := setFault_output (s.swept fb) c d _
  refine ⟨fun hlink => ?_, fun v l hlink hl => ?_⟩
  · intro s2
    have hs2 : (s.swept fb).visit c = if ch.config.policy = .latchOff then s2.lockOut c else s2 := by
      have hconfirm := confirm_unlinked (linkedLease_of_unlinked (s := s.swept fb) hlink) kind n
      have happly := applyPolicy_unlinked s2 c kind
      rw [show (s2.channel c).config.policy = ch.config.policy from hpolicy] at happly
      exact (hvisit.trans hconfirm).trans happly
    by_cases hp : ch.config.policy = .latchOff
    · rw [if_pos hp] at hs2 ⊢
      rw [exec_sweepVisit hr hs2, ← syncOutputs_of_outputs (s' := s2) hout, syncOutputs_lockOut]
      exact congrArg Host.Outcome.next (modifyChannel_congr (congrArg (Channel.goes · .lockedOut) hfault))
    · rw [if_neg hp] at hs2 ⊢
      exact exec_sweepVisit_of_output hr hs2 hout
  · intro s2 s3
    have hs2 : (s.swept fb).visit c = if ch.config.policy = .report then s2 else
        ((s3.withoutLease v l).notify l.holder (.revokedFault (s.handle v) l.tag c kind)).pass none := by
      have hconfirm := confirm_linked (linkedLease_of_linked (s := s.swept fb) hlink hl) kind n
      have happly := applyPolicy_linked (s := s2) hl c kind
      rw [show (s2.channel c).config.policy = ch.config.policy from hpolicy] at happly
      exact (hvisit.trans hconfirm).trans happly
    by_cases hp : ch.config.policy = .report
    · rw [if_pos hp] at hs2 ⊢
      exact exec_sweepVisit_of_output hr hs2 hout
    · rw [if_neg hp] at hs2 ⊢
      exact exec_sweepVisit hr hs2

/-! ### CLEAR_FAULT -/

/-- Who may not clear a fault (R128, check 2). -/
theorem mayClear_eq_false {s : State} {p : HostNo} {c : ChannelNo} : s.mayClear p c = false ↔
    (s.host p).clear = false ∧ ¬∃ v ∈ (s.channel c).state.link, ∃ l ∈ s.lease? v, l.holder = p := by
  unfold State.mayClear
  rw [Bool.or_eq_false_iff]
  refine and_congr_right fun _ => ?_
  cases (s.channel c).state.link with
  | none => simp
  | some v => cases hl : s.lease? v <;> simp [hl]

/-- Settles O30: by the first check of R128 that fails, and otherwise by the clear with its pass. -/
theorem clearFaultFreesChannel : Obligations.ClearFaultFreesChannel := by
  intro p n seq channel s hl hf
  refine ⟨fun hb => congrArg Host.Outcome.next (onFrame_of_reply hl hf ?_), fun c hc => ?_⟩
  · rw [State.clearFault, channelField_eq_none hb]
    rfl
  intro ch u
  have hbody : (s.framed p n).clearFault p seq channel =
      if s.mayClear p c = false then (s.framed p n).refuse p seq .noRight
      else if ch.fault.state ≠ .faulted then (s.framed p n).refuse p seq .notFaulted
      else if ch.fault.present = true then (s.framed p n).refuse p seq .stillPresent
      else ((u.pass none).framed p n).answer p seq .ok [] := by
    rw [State.clearFault, channelField_of_toNat hc, ← pass_framed]
    rfl
  have refused {r : Result} (h : (s.framed p n).clearFault p seq channel = (s.framed p n).refuse p seq r) :
      exec (.clearFault p n seq channel) s = .next (s.replied p seq r []) :=
    congrArg Host.Outcome.next (onFrame_of_reply hl hf h)
  by_cases hright : s.mayClear p c = false
  · rw [if_pos (mayClear_eq_false.1 hright)]
    exact refused (hbody.trans (if_pos hright))
  rw [if_neg (mt mayClear_eq_false.2 hright)]
  rw [if_neg hright] at hbody
  by_cases hfaulted : ch.fault.state ≠ .faulted
  · rw [if_pos hfaulted]
    exact refused (hbody.trans (if_pos hfaulted))
  rw [if_neg hfaulted] at hbody ⊢
  by_cases hpresent : ch.fault.present = true
  · rw [if_pos hpresent]
    exact refused (hbody.trans (if_pos hpresent))
  rw [if_neg hpresent] at hbody ⊢
  exact congrArg Host.Outcome.next (onFrame_of_answer hl hf hbody)

end Sys2Proof.Machine
end

section
/-! PROOFS. The append discipline of a notice queue, the notice records on the wire, and the two notice commands (R135, R137, R138,
R140, R142, R177, R179, R181, R182). -/

namespace Sys2Proof.Machine

/-! ### The append discipline -/

/-- Nothing joins a queue behind an OVERFLOW (R138). -/
theorem appendRecord_of_overflow {q : List Notice} (h : .overflow ∈ q) (n : Notice) : appendRecord q n = q := if_pos h

theorem appendRecord_of_room {q : List Notice} (h : .overflow ∉ q) (hq : q.length ≤ 10) (n : Notice) :
    appendRecord q n = q ++ [n] := by
  have hroom : q.length + 1 < Config.queueRoom := by simp only [Config.queueRoom]; omega
  rw [appendRecord, if_neg h, if_pos hroom]

/-- OVERFLOW takes the twelfth place (R138). -/
theorem appendRecord_of_last {q : List Notice} (h : .overflow ∉ q) (hq : q.length = 11) (n : Notice) :
    appendRecord q n = q ++ [.overflow] := by
  have hlast : q.length + 1 = Config.queueRoom := by rw [hq]; rfl
  rw [appendRecord, if_neg h, if_neg hlast.not_lt, if_pos hlast]

theorem appendRecord_of_full {q : List Notice} (h : .overflow ∉ q) (hq : 12 ≤ q.length) (n : Notice) :
    appendRecord q n = q := by
  have hfull : Config.queueRoom < q.length + 1 := by simp only [Config.queueRoom]; omega
  rw [appendRecord, if_neg h, if_neg hfull.not_gt, if_neg hfull.ne']

/-- A mask lets a notice through when its kind is not maskable or has its place in the mask (R135, R137). -/
theorem passes_iff {n : Notice} {mask : Word} : n.passes mask = true ↔ n.code < 4 ∨ mask.getLsbD n.code = true := by
  simp only [Notice.passes, Notice.maskable, Bool.or_eq_true, Bool.not_eq_true', decide_eq_false_iff_not, not_le]

theorem receive_of_passes {n : Notice} {r : HostRecord} (h : n.passes r.mask = true) :
    r.receive n = { r with notices := appendRecord r.notices n } := if_pos h

/-- Settles O50: by the mask, and then by the three cases of the append discipline. -/
theorem noticeAppended : Obligations.NoticeAppended := by
  refine fun n r => ⟨fun hn hm => receive_of_excluded ?_, fun hp => ?_⟩
  · rw [← Bool.not_eq_true, passes_iff, hm]
    exact fun h => h.elim hn.not_gt nofun
  · rw [receive_of_passes (passes_iff.2 hp)]
    exact ⟨fun ho hq => by rw [appendRecord_of_room ho hq], fun ho hq => by rw [appendRecord_of_last ho hq],
      fun ho => by rw [appendRecord_of_overflow ho]⟩

/-! ### The records on the wire -/

/-- Settles O51: the record of each kind is `noticeBytes` of the fields that the kind carries, and evaluates to its layout. -/
theorem noticeLayout : Obligations.NoticeLayout := fun _ _ _ _ _ _ _ =>
  ⟨rfl, rfl, rfl, rfl, rfl, rfl, rfl, rfl, rfl, rfl, rfl, rfl, rfl, rfl, rfl⟩

/-! ### READ_NOTICE and SET_NOTICES -/

theorem readNotice_of_empty {s : State} {p : HostNo} (h : (s.host p).notices = []) (seq : Byte) :
    s.readNotice p seq = s.answer p seq .ok (List.replicate 14 0) := by
  rw [State.readNotice, h]
  rfl

/-- The oldest record is removed and answered with the count left behind it (R140). -/
theorem readNotice_of_cons {s : State} {p : HostNo} {n : Notice} {rest : List Notice} (h : (s.host p).notices = n :: rest)
    (seq : Byte) : s.readNotice p seq =
      (s.modifyHost p fun r => { r with notices := rest }).answer p seq .ok (n.bytes ++ [byteOf rest.length]) := by
  rw [State.readNotice, h]

theorem maskField_eq_none {mask : Word} (h : mask &&& 0xC00F ≠ 0) : maskField mask = none := if_neg h

theorem maskField_eq_some {mask : Word} (h : mask &&& 0xC00F = 0) : maskField mask = some mask := if_pos h

theorem setNotices_of_reserved {mask : Word} (h : mask &&& 0xC00F ≠ 0) (s : State) (p : HostNo) (seq lead : Byte) :
    s.setNotices p seq mask lead = s.refuse p seq .badValue := by
  rw [State.setNotices, maskField_eq_none h]

/-- Mask and lead are written whole (R142). -/
theorem setNotices_of_mask {mask : Word} (h : mask &&& 0xC00F = 0) (s : State) (p : HostNo) (seq lead : Byte) :
    s.setNotices p seq mask lead =
      (s.modifyHost p fun r => { r with mask := mask, lead := lead.toNat }).answer p seq .ok (bytesOfWord mask ++ [lead]) := by
  rw [State.setNotices, maskField_eq_some h]

/-- A command in its frame that writes the record of a host and answers: no output level moves (R5). -/
theorem onFrame_of_hostWrite {s : State} {p : HostNo} {n payload : Nat} (hl : s.listens p = true)
    (hf : clocksFit payload n = true) {body : State → State} {f : HostRecord → HostRecord} {seq : Byte} {r : Result}
    {fields : List Byte} (hb : body (s.framed p n) = ((s.framed p n).modifyHost p f).answer p seq r fields) :
    onFrame p n payload body s = (s.modifyHost p f).replied p seq r fields := by
  have hsync : syncOutputs s (s.modifyHost p f) = s.modifyHost p f := syncOutputs_of_output fun _ => rfl
  rw [onFrame_of_answer hl hf (t := s.modifyHost p f) hb, hsync]

/-- Settles O27: by whether the queue holds a record, and by the reserved bits of the mask. -/
theorem noticeCommands : Obligations.NoticeCommands := by
  refine ⟨fun p n seq s hl hf => ⟨fun he => ?_, fun record rest hq => ?_⟩,
    fun p n seq mask lead s hl hf => ⟨fun hm => ?_, fun hm => ?_⟩⟩
  · exact congrArg Host.Outcome.next (onFrame_of_reply hl hf (readNotice_of_empty (s := s.framed p n) he seq))
  · exact congrArg Host.Outcome.next (onFrame_of_hostWrite hl hf (readNotice_of_cons (s := s.framed p n) hq seq))
  · exact congrArg Host.Outcome.next (onFrame_of_reply hl hf (setNotices_of_reserved hm _ p seq lead))
  · exact congrArg Host.Outcome.next (onFrame_of_hostWrite hl hf (setNotices_of_mask hm _ p seq lead))

end Sys2Proof.Machine
end

section
/-! PROOFS. What a row can do to a notice queue, and the law of the queues through every step (R136, R138, R140, R145). -/

namespace Sys2Proof.Machine

/-! ### One queue -/

/-- What can happen to a notice queue besides device reset: a record meets the append discipline (R138), the oldest is read
(R140), or TABLE_RESET clears the queue (R145). -/
inductive QueueStep : List Notice → List Notice → Prop
  | appended (q : List Notice) (n : Notice) : QueueStep q (appendRecord q n)
  | read (n : Notice) (q : List Notice) : QueueStep (n :: q) q
  | cleared (q : List Notice) : QueueStep q [.tableReset]

/-- The law of one notice queue (R136, R138). -/
def lawfulQueue (q : List Notice) : Prop :=
  q.length ≤ 12 ∧ .overflow ∉ q.dropLast ∧ (q.length = 12 → q.getLast? = some .overflow)

theorem noticesLaw_iff {s : State} : s.noticesLaw ↔ ∀ g, lawfulQueue (s.host g).notices := Iff.rfl

/-- A queue of at most 11 records obeys the law when no record but its last is OVERFLOW. -/
theorem lawfulQueue_of_short {q : List Notice} (hq : q.length ≤ 11) (ho : .overflow ∉ q.dropLast) : lawfulQueue q :=
  ⟨by omega, ho, fun h => by omega⟩

theorem lawfulQueue_appendRecord {q : List Notice} (h : lawfulQueue q) (n : Notice) : lawfulQueue (appendRecord q n) := by
  by_cases ho : .overflow ∈ q
  · rw [appendRecord_of_overflow ho]
    exact h
  have hdrop (m : Notice) : .overflow ∉ (q ++ [m]).dropLast := by rwa [List.dropLast_concat]
  rcases Nat.lt_trichotomy q.length 11 with hq | hq | hq
  · rw [appendRecord_of_room ho (by omega)]
    exact lawfulQueue_of_short (by rw [List.length_append, List.length_singleton]; omega) (hdrop n)
  · rw [appendRecord_of_last ho hq]
    exact ⟨by rw [List.length_append, hq]; exact le_rfl, hdrop _, fun _ => List.getLast?_concat⟩
  · rw [appendRecord_of_full ho hq]
    exact h

theorem lawfulQueue_tail {n : Notice} {q : List Notice} (h : lawfulQueue (n :: q)) : lawfulQueue q := by
  obtain ⟨hlen, ho, -⟩ := h
  rw [List.length_cons] at hlen
  refine lawfulQueue_of_short (by omega) fun hm => ho ?_
  rw [List.dropLast_cons_of_ne_nil (List.ne_nil_of_mem (List.mem_of_mem_dropLast hm))]
  exact .tail n hm

theorem lawfulQueue_of_step {q q' : List Notice} (h : QueueStep q q') (hq : lawfulQueue q) : lawfulQueue q' := by
  cases h with
  | appended q n => exact lawfulQueue_appendRecord hq n
  | read n q => exact lawfulQueue_tail hq
  | cleared q => exact lawfulQueue_of_short (by decide) (by decide)

theorem lawfulQueue_of_steps {q q' : List Notice} (h : Relation.ReflTransGen QueueStep q q') (hq : lawfulQueue q) :
    lawfulQueue q' := by
  induction h with
  | refl => exact hq
  | tail _ hstep ih => exact lawfulQueue_of_step hstep ih

/-! ### The queues of a part -/

/-- Every notice queue of `t` comes from that of `s` by steps of a queue. -/
def State.queuesTo (s t : State) : Prop := ∀ g, Relation.ReflTransGen QueueStep (s.host g).notices (t.host g).notices

theorem queuesTo_refl (s : State) : s.queuesTo s := fun _ => .refl

theorem queuesTo_trans {s t u : State} (h : s.queuesTo t) (h' : t.queuesTo u) : s.queuesTo u := fun g => (h g).trans (h' g)

theorem queuesTo_of_hosts {s t : State} (h : t.hosts = s.hosts) : s.queuesTo t := fun g => by
  rw [State.host, State.host, h]

theorem noticesLaw_of_queuesTo {s t : State} (h : s.queuesTo t) (hs : s.noticesLaw) : t.noticesLaw :=
  noticesLaw_iff.2 fun g => lawfulQueue_of_steps (h g) (noticesLaw_iff.1 hs g)

theorem receive_queue (r : HostRecord) (n : Notice) : Relation.ReflTransGen QueueStep r.notices (r.receive n).notices := by
  cases hp : n.passes r.mask with
  | false => rw [receive_of_excluded hp]
  | true =>
    rw [receive_of_passes hp]
    exact .single (.appended r.notices n)

theorem queuesTo_modifyHost (s : State) (p : HostNo) {f : HostRecord → HostRecord}
    (hf : Relation.ReflTransGen QueueStep (s.host p).notices (f (s.host p)).notices) : s.queuesTo (s.modifyHost p f) := by
  intro g
  rw [modifyHost_host]
  split
  · rename_i hg
    exact hg ▸ hf
  · exact .refl

theorem queuesTo_notify (s : State) (g : HostNo) (n : Notice) : s.queuesTo (s.notify g n) :=
  queuesTo_modifyHost s g (receive_queue _ n)

theorem queuesTo_notifyAll (s : State) (n : Notice) : s.queuesTo (s.notifyAll n) := fun g => by
  rw [notifyAll_host]
  exact receive_queue _ n

/-! ### The shared operations -/

theorem takeOut_hosts (s : State) (v : SlotNo) : (s.takeOut v).hosts = s.hosts := by
  unfold State.takeOut
  split
  · rfl
  · split <;> rfl

theorem queuesTo_endQuietly (s : State) (v : SlotNo) : s.queuesTo (s.endQuietly v) := queuesTo_of_hosts (takeOut_hosts s v)

theorem queuesTo_endLease (s : State) (v : SlotNo) (n : Notice) : s.queuesTo (s.endLease v n) := by
  unfold State.endLease
  split
  · exact queuesTo_refl s
  · exact queuesTo_trans (queuesTo_endQuietly s v) (queuesTo_notify _ _ n)

theorem queuesTo_warningCheck (s : State) (v : SlotNo) : s.queuesTo (s.warningCheck v) := by
  unfold State.warningCheck
  split
  · exact queuesTo_refl s
  · split
    · exact queuesTo_notify (s.modifyLease v _) _ _
    · exact queuesTo_refl s

theorem queuesTo_holdLease (s : State) (own : Option SlotNo) (v : SlotNo) : s.queuesTo (s.holdLease own v) := by
  unfold State.holdLease
  split
  · exact queuesTo_refl s
  · refine queuesTo_trans ?_ (queuesTo_warningCheck _ v)
    split
    · exact queuesTo_refl s
    · exact queuesTo_notify (State.mapChannels (s.modifyLease v _) _) _ _

theorem queuesTo_holdUnlessBreak (s : State) (own : Option SlotNo) (v : SlotNo) (set : Word) :
    s.queuesTo (s.holdUnlessBreak own v set) := by
  unfold State.holdUnlessBreak
  split
  · exact queuesTo_refl s
  · exact queuesTo_holdLease s own v

theorem queuesTo_preempt (s : State) (w : SlotNo) (wset : Word) (v : SlotNo) : s.queuesTo (State.preempt w wset s v) := by
  unfold State.preempt
  split
  · exact queuesTo_refl s
  · rename_i l _
    dsimp only
    split
    · exact queuesTo_notify (State.enqueueFront _ v l.priority) _ _
    · exact queuesTo_notify (State.freeSlot _ v) _ _

theorem queuesTo_preempts (w : SlotNo) (wset : Word) (vs : List SlotNo) (s : State) :
    s.queuesTo (vs.foldl (State.preempt w wset) s) := by
  induction vs generalizing s with
  | nil => exact queuesTo_refl s
  | cons v vs ih => exact queuesTo_trans (queuesTo_preempt s w wset v) (ih _)

theorem queuesTo_grant (s : State) (own : Option SlotNo) (w : SlotNo) : s.queuesTo (s.grant own w) := by
  unfold State.grant
  split
  · exact queuesTo_refl s
  · rename_i l _
    exact queuesTo_trans (queuesTo_preempts w l.set _ s) (queuesTo_holdUnlessBreak (State.reserveSet _ w l.set) own w l.set)

theorem queuesTo_pass (s : State) (own : Option SlotNo) : s.queuesTo (s.pass own) :=
  pass_induct (P := s.queuesTo) own (fun t _ w h _ _ => queuesTo_trans h (queuesTo_grant t own w)) (queuesTo_refl s)

/-- A pass at the end of an event that has left the hosts alone. -/
theorem queuesTo_pass_of_hosts {s t : State} (h : t.hosts = s.hosts) (own : Option SlotNo) : s.queuesTo (t.pass own) :=
  queuesTo_trans (queuesTo_of_hosts h) (queuesTo_pass t own)

/-- The end of a lease with its notice and its pass (R37 to R39, R52). -/
theorem queuesTo_endLease_pass (s : State) (v : SlotNo) (n : Notice) : s.queuesTo ((s.endLease v n).pass none) :=
  queuesTo_trans (queuesTo_endLease s v n) (queuesTo_pass _ none)

/-! ### The commands -/

theorem queuesTo_request (s : State) (p : HostNo) (seq : Byte) (set levels : Word) (comp : Byte) (term maxWait tag : Word) :
    s.queuesTo (s.request p seq set levels comp term maxWait tag) := by
  have outcome (t : State) (v : SlotNo) (h : Handle) : (t.requestOutcome p seq v h).hosts = t.hosts := by
    unfold State.requestOutcome
    repeat' split
    all_goals rfl
  have entered (v : SlotNo) (l : Lease) : s.queuesTo (s.enterRequest v l) :=
    queuesTo_pass ((s.modifySlot v _).enqueueBack v l.priority) (some v)
  unfold State.request
  split
  · split
    · exact queuesTo_refl s
    split
    · exact queuesTo_refl s
    split
    · exact queuesTo_refl s
    split
    · exact queuesTo_refl s
    split
    · exact queuesTo_refl s
    · exact queuesTo_trans (entered _ _) (queuesTo_of_hosts (outcome _ _ _))
  · exact queuesTo_refl s

theorem queuesTo_renew (s : State) (p : HostNo) (seq : Byte) (newTerm : Word) (v : SlotNo) (l : Lease) :
    s.queuesTo (s.renew p seq newTerm v l) := by
  have renewed (t : Nat) : s.queuesTo ((s.modifyLease v (Lease.renewed t)).warningCheck v) :=
    queuesTo_warningCheck (s.modifyLease v _) v
  unfold State.renew
  split
  · exact queuesTo_refl s
  · dsimp only
    split
    · exact queuesTo_refl s
    · exact queuesTo_refl s
    · exact renewed _
    · exact renewed _

theorem drive_hosts (s : State) (p : HostNo) (seq : Byte) (mask levels : Word) (v : SlotNo) (l : Lease) :
    (s.drive p seq mask levels v l).hosts = s.hosts := by
  unfold State.drive
  repeat' split
  all_goals rfl

theorem queuesTo_shed (s : State) (p : HostNo) (seq : Byte) (shed : Word) (v : SlotNo) (l : Lease) :
    s.queuesTo (s.shed p seq shed v l) := by
  have hshed : s.queuesTo (s.shedChannels shed v l) := by
    unfold State.shedChannels
    split
    case h_4 => exact queuesTo_holdUnlessBreak (State.modifyLease (s.mapSet shed _) v _) _ _ _
    all_goals exact queuesTo_refl s
  unfold State.shed
  split
  · exact queuesTo_refl s
  · split
    · exact queuesTo_refl s
    · exact queuesTo_trans hshed (queuesTo_pass _ none)

theorem queuesTo_alter (s : State) (p : HostNo) (seq comp : Byte) (v : SlotNo) (l : Lease) :
    s.queuesTo (s.alter p seq comp v l) := by
  have hwrite (pr : Priority) (preemptible requeue : Bool) : (s.writeCompetition v l pr preemptible requeue).hosts = s.hosts := by
    unfold State.writeCompetition
    dsimp only
    split <;> rfl
  unfold State.alter
  split
  · exact queuesTo_refl s
  · split
    · exact queuesTo_refl s
    · exact queuesTo_pass_of_hosts (hwrite _ _ _) none

theorem queuesTo_releaseAll (s : State) (p : HostNo) (seq : Byte) : s.queuesTo (s.releaseAll p seq) := by
  rw [releaseAll_eq]
  exact queuesTo_pass_of_hosts (t := s.withoutAll (s.slotsOf p)) rfl none

theorem queuesTo_revoke (s : State) (p : HostNo) (seq slot gen : Byte) : s.queuesTo (s.revoke p seq slot gen) := by
  unfold State.revoke
  split
  · exact queuesTo_refl s
  · split
    · exact queuesTo_refl s
    · exact queuesTo_endLease_pass s _ _

theorem queuesTo_readNotice (s : State) (p : HostNo) (seq : Byte) : s.queuesTo (s.readNotice p seq) := by
  cases hq : (s.host p).notices with
  | nil =>
    rw [readNotice_of_empty hq]
    exact queuesTo_refl s
  | cons n rest =>
    rw [readNotice_of_cons hq]
    exact queuesTo_modifyHost s p (hq ▸ .single (.read n rest))

theorem queuesTo_setNotices (s : State) (p : HostNo) (seq : Byte) (mask : Word) (lead : Byte) :
    s.queuesTo (s.setNotices p seq mask lead) := by
  by_cases hm : mask &&& 0xC00F = 0
  · rw [setNotices_of_mask hm]
    exact queuesTo_modifyHost s p .refl
  · rw [setNotices_of_reserved hm]
    exact queuesTo_refl s

theorem queuesTo_setHost (s : State) (p : HostNo) (seq host quota ceiling rights : Byte) :
    s.queuesTo (s.setHost p seq host quota ceiling rights) := by
  unfold State.setHost
  split
  · exact queuesTo_refl s
  split
  · exact queuesTo_refl s
  · repeat' split
    case isFalse.isFalse.isFalse => exact queuesTo_modifyHost s _ .refl
    all_goals exact queuesTo_refl s

theorem queuesTo_setChannel (s : State) (p : HostNo) (seq channel flags breakTime settleTime threshold : Byte) :
    s.queuesTo (s.setChannel p seq channel flags breakTime settleTime threshold) := by
  unfold State.setChannel
  split
  · exact queuesTo_refl s
  split
  · rename_i c k _ _
    split
    · exact queuesTo_refl s
    split
    · exact queuesTo_refl s
    dsimp only
    split
    · exact queuesTo_pass_of_hosts (t := s.modifyChannel c (Channel.configure k)) rfl none
    · exact queuesTo_refl s
  · exact queuesTo_refl s

theorem queuesTo_clearFault (s : State) (p : HostNo) (seq channel : Byte) : s.queuesTo (s.clearFault p seq channel) := by
  unfold State.clearFault
  split
  · exact queuesTo_refl s
  · rename_i c _
    repeat' split
    case isFalse.isFalse.isFalse => exact queuesTo_pass_of_hosts (t := s.modifyChannel c Channel.clearFault) rfl none
    all_goals exact queuesTo_refl s

/-- TABLE_RESET leaves each queue with its one record (R145). -/
theorem queuesTo_tableReset (s : State) (p : HostNo) (seq : Byte) : s.queuesTo (s.tableReset p seq) := by
  have hclear : s.queuesTo s.clearTable := fun g => by
    rw [clearTable_host]
    exact .single (.cleared _)
  unfold State.tableReset
  split
  · exact queuesTo_refl s
  · exact hclear

/-! ### The timed events -/

theorem queuesTo_termStep (s : State) (v : SlotNo) : s.queuesTo (s.termStep v) := by
  unfold State.termStep
  split
  · exact queuesTo_refl s
  · split
    · split
      · exact queuesTo_endLease_pass s v _
      · exact queuesTo_warningCheck (s.modifyLease v _) v
    · exact queuesTo_refl s

theorem queuesTo_expiryEvent (s : State) (v : SlotNo) : s.queuesTo (s.expiryEvent v) := by
  unfold State.expiryEvent
  split
  · exact queuesTo_refl s
  · split
    · exact queuesTo_endLease_pass s v _
    · exact queuesTo_refl s

theorem queuesTo_waitStep (s : State) (v : SlotNo) : s.queuesTo (s.waitStep v) := by
  unfold State.waitStep
  split
  · exact queuesTo_refl s
  · split
    · split
      · exact queuesTo_endLease_pass s v _
      · exact queuesTo_refl s
    · exact queuesTo_refl s

theorem queuesTo_timeoutEvent (s : State) (v : SlotNo) : s.queuesTo (s.timeoutEvent v) := by
  unfold State.timeoutEvent
  split
  · exact queuesTo_refl s
  · split
    · exact queuesTo_endLease_pass s v _
    · exact queuesTo_refl s

theorem queuesTo_breakEnded (s : State) (link : Option SlotNo) : s.queuesTo (s.breakEnded link) := by
  unfold State.breakEnded
  split
  · exact queuesTo_pass s none
  · split
    · exact queuesTo_refl s
    · exact queuesTo_holdUnlessBreak s none _ _

theorem queuesTo_endBreak (s : State) (c : ChannelNo) (link : Option SlotNo) : s.queuesTo (s.endBreak c link) :=
  queuesTo_breakEnded (s.modifyChannel c _) link

theorem queuesTo_breakCountdown (s : State) (c : ChannelNo) : s.queuesTo (s.breakCountdown c) := by
  unfold State.breakCountdown
  split
  · split
    · split
      · exact queuesTo_endBreak s c _
      · exact queuesTo_refl s
    · exact queuesTo_refl s
  all_goals exact queuesTo_refl s

theorem queuesTo_breakEndReserved (s : State) (c : ChannelNo) : s.queuesTo (s.breakEndReserved c) := by
  unfold State.breakEndReserved
  split
  · split
    · exact queuesTo_endBreak s c _
    · exact queuesTo_refl s
  all_goals exact queuesTo_refl s

theorem queuesTo_breakEndUnreserved (s : State) (c : ChannelNo) : s.queuesTo (s.breakEndUnreserved c) := by
  unfold State.breakEndUnreserved
  split
  · split
    · exact queuesTo_endBreak s c _
    · exact queuesTo_refl s
  all_goals exact queuesTo_refl s

/-! ### Supervision and inhibit -/

theorem queuesTo_reportFault (s : State) (c : ChannelNo) (kind : FaultKind) (linked : Option (SlotNo × Lease)) :
    s.queuesTo (s.reportFault c kind linked) := by
  unfold State.reportFault
  split
  · exact queuesTo_notify s _ _
  · exact queuesTo_notifyAll s _

theorem queuesTo_applyPolicy (s : State) (c : ChannelNo) (kind : FaultKind) (linked : Option (SlotNo × Lease)) :
    s.queuesTo (s.applyPolicy c kind linked) := by
  unfold State.applyPolicy
  split
  · exact queuesTo_refl s
  · exact queuesTo_refl s
  · exact queuesTo_endLease_pass s _ _
  · exact queuesTo_refl s
  · exact queuesTo_endLease_pass (s.lockOut c) _ _

theorem queuesTo_countDisagreement (s : State) (c : ChannelNo) (n : Nat) : s.queuesTo (s.countDisagreement c n) := by
  unfold State.countDisagreement
  dsimp only
  split
  · exact queuesTo_trans (queuesTo_reportFault (s.modifyChannel c _) c _ _) (queuesTo_applyPolicy _ c _ _)
  · exact queuesTo_refl s

theorem queuesTo_compare (s : State) (c : ChannelNo) (disagrees : Bool) : s.queuesTo (s.compare c disagrees) := by
  unfold State.compare
  dsimp only
  split
  · exact queuesTo_refl s
  · split
    · exact queuesTo_countDisagreement s c _
    · exact queuesTo_refl s
  · split
    · exact queuesTo_countDisagreement s c _
    · exact queuesTo_refl s

theorem queuesTo_sweepVisit (s : State) : s.queuesTo s.sweepVisit := by
  unfold State.sweepVisit State.visit
  dsimp only
  split
  · exact queuesTo_compare { s with sweep := s.sweep + 1 } _ _
  · exact queuesTo_refl s

theorem queuesTo_assertInhibit (s : State) : s.queuesTo s.assertInhibit :=
  queuesTo_notifyAll (State.mapLeaseStates (State.mapChannels (s.qualify true) _) _) .inhibitOn

theorem queuesTo_liftInhibit (s : State) : s.queuesTo s.liftInhibit :=
  queuesTo_notifyAll ((s.qualify false).mapLeaseStates _) .inhibitOff

/-! ### Every row and every step -/

/-- The work of every row takes each notice queue through steps of a queue. -/
theorem queuesTo_perform (s : State) (i : Instr) : s.queuesTo (s.perform i) := by
  have own {p : HostNo} {seq slot gen : Byte} {body : SlotNo → Lease → State} (hb : ∀ v l, s.queuesTo (body v l)) :
      s.queuesTo (s.onOwnLease p seq slot gen body) :=
    onOwnLease_keeps (fun _ => queuesTo_refl s) fun v l _ => hb v l
  cases i with
  | noop | queryStatus | frameStart | frameError | deviceReset | resetComplete | inhibitLineChange => exact queuesTo_refl s
  | request p _ seq set levels comp term maxWait tag => exact queuesTo_request s p seq set levels comp term maxWait tag
  | renew p _ seq slot gen newTerm => exact own (queuesTo_renew s p seq newTerm)
  | drive p _ seq slot gen mask levels => exact own fun v l => queuesTo_of_hosts (drive_hosts s p seq mask levels v l)
  | shed p _ seq slot gen set => exact own (queuesTo_shed s p seq set)
  | alter p _ seq slot gen comp => exact own (queuesTo_alter s p seq comp)
  | release p _ seq slot gen => exact own fun v _ => queuesTo_trans (queuesTo_endQuietly s v) (queuesTo_pass _ none)
  | releaseAll p _ seq => exact queuesTo_releaseAll s p seq
  | queryLease | listLeases | queryChannel | readHost =>
    simp only [State.perform, State.queryLease, State.listLeases, State.queryChannel, State.readHost]
    split <;> exact queuesTo_refl s
  | readNotice p _ seq => exact queuesTo_readNotice s p seq
  | clearFault p _ seq channel => exact queuesTo_clearFault s p seq channel
  | setNotices p _ seq mask lead => exact queuesTo_setNotices s p seq mask lead
  | setChannel p _ seq channel flags breakTime settleTime threshold =>
    exact queuesTo_setChannel s p seq channel flags breakTime settleTime threshold
  | setHost p _ seq host quota ceiling rights => exact queuesTo_setHost s p seq host quota ceiling rights
  | revoke p _ seq slot gen => exact queuesTo_revoke s p seq slot gen
  | tableReset p _ seq => exact queuesTo_tableReset s p seq
  | termStep v => exact queuesTo_termStep s v
  | expiry v => exact queuesTo_expiryEvent s v
  | waitStep v => exact queuesTo_waitStep s v
  | waitTimeout v => exact queuesTo_timeoutEvent s v
  | breakEndReserved c => exact queuesTo_breakEndReserved s c
  | breakEndUnreserved c => exact queuesTo_breakEndUnreserved s c
  | breakCountdown c => exact queuesTo_breakCountdown s c
  | sweepVisit => exact queuesTo_sweepVisit s
  | settleTimerTick => exact queuesTo_refl s
  | assertion =>
    unfold State.perform
    dsimp only
    split
    · exact queuesTo_assertInhibit s
    · exact queuesTo_refl s
  | releaseOfInhibit =>
    unfold State.perform
    dsimp only
    split
    · exact queuesTo_liftInhibit s
    · exact queuesTo_refl s

/-- After device reset each queue holds its POWER_ON record (R144). -/
theorem completeReset_noticesLaw (s : State) : s.completeReset.noticesLaw := by
  refine noticesLaw_iff.2 fun g => ?_
  rw [completeReset_host]
  exact lawfulQueue_of_short (q := [.powerOn]) (by decide) (by decide)

/-- Settles O53: the work of every row takes a queue through appends, reads and clears, and each of them keeps the law. -/
theorem noticesLawKept : Obligations.NoticesLawKept := fun _ _ hs hst =>
  step_keeps (P := State.noticesLaw) (Q := fun _ t => t.noticesLaw)
    (fun h => noticesLaw_of_queuesTo (queuesTo_of_hosts h.hosts)) (fun {s} _ => completeReset_noticesLaw s) id
    (fun i {s} h => noticesLaw_of_queuesTo (queuesTo_perform s i) h) id hs hst

end Sys2Proof.Machine
end

section
/-! PROOFS. What reaches the part while it takes no frames: every valid frame carries a command, and a row of a port that does not
listen moves its line alone (R159, R168, R175). -/

namespace Sys2Proof.Machine

/-! ### The command of a valid frame -/

/-- The payload of a valid frame has the length that its opcode fixes (R165, R177). -/
theorem payloadLength_of_valid {bits : List Bool} {op : Byte} {payload : List Byte} (h : validate bits = .valid op payload) :
    payloadLength op = some payload.length := by
  unfold validate at h
  split at h
  · split at h <;> cases h
  · rename_i op' rest _
    split at h
    · cases h
    · split at h
      · cases h
      · rename_i k hk
        split at h
        · cases h
        · split at h
          · rename_i hcrc
            have hlt : k < rest.length := (List.getElem?_eq_some_iff.1 hcrc).1
            cases h
            rw [hk, List.length_take_of_le hlt.le]
          · cases h

/-- Every entry of the table of opcodes, with a payload of its length, is a command; one that samples the FB lines finds them as
they stand (R177). -/
theorem commandOf_of_mem {e : Byte × Nat} (he : e ∈ opcodeTable) (payload : Fin e.2 → Byte) (p : HostNo) (n : Nat)
    (fb : Word) : ∃ j, commandOf p n fb e.1 (List.ofFn payload) = some j ∧ j.fbLines fb = fb := by
  unfold opcodeTable at he
  fin_cases he <;> exact ⟨_, rfl, rfl⟩

theorem commandOf_of_payloadLength {op : Byte} {payload : List Byte} (h : payloadLength op = some payload.length) (p : HostNo)
    (n : Nat) (fb : Word) : ∃ j, commandOf p n fb op payload = some j ∧ j.fbLines fb = fb := by
  obtain ⟨front, back, hsplit, -⟩ := List.lookup_eq_some_iff.1 h
  have hmem : (op, payload.length) ∈ opcodeTable :=
    hsplit ▸ List.mem_append_right front List.mem_cons_self
  simpa only [List.ofFn_get] using commandOf_of_mem hmem payload.get p n fb

/-! ### A port that does not listen -/

theorem listens_of_active {s : State} (h : s.resetControl.active = true) (p : HostNo) : s.listens p = false := by
  simp [State.listens, h]

theorem command_deaf {i : Instr} {p : HostNo} {n : Nat} {s : State} (hi : i.frame? = some (p, n)) (hs : s.listens p = false) :
    exec i s = .next ((s.setFb (i.fbLines s.fb)).modifyPort p fun x => { x with selLow := false }) := by
  obtain ⟨payload, he⟩ := exec_of_frame hi s
  rw [he, onFrame_deaf (s := s.setFb (i.fbLines s.fb)) hs]

theorem frameError_deaf {p : HostNo} {s : State} (hs : s.listens p = false) (bits : List Bool) :
    exec (.frameError p bits) s = .next (s.modifyPort p fun x => { x with selLow := false }) := by
  change execFrameError p bits s = _
  unfold execFrameError
  split
  · rw [frameEnd_deaf hs]
  · rw [frameEnd_deaf hs]
  · rename_i op payload hv
    obtain ⟨j, hj, hfb⟩ := commandOf_of_payloadLength (payloadLength_of_valid hv) p bits.length s.fb
    have hframe := commandOf_frame hj
    rw [hj, ← exec_eq_executeRow (by rw [hframe]; nofun), command_deaf hframe hs, hfb]
    rfl

/-- The edge that ends a frame of a port that does not listen moves the line alone (R159, R175). -/
theorem exec_deaf {i : Instr} {p : HostNo} {s : State} (hp : i.portOf = some p) (hi : i ≠ .frameStart p)
    (hs : s.listens p = false) :
    exec i s = .next (({ s with fb := i.fbLines s.fb } : State).modifyPort p fun x => { x with selLow := false }) := by
  cases i with
  | frameStart q =>
    cases hp
    exact absurd rfl hi
  | frameError q bits =>
    cases hp
    exact frameError_deaf hs bits
  | noop | request | renew | drive | shed | alter | release | releaseAll | queryLease | listLeases | queryChannel
  | queryStatus | readNotice | clearFault | setNotices | setChannel | setHost | readHost | revoke | tableReset =>
    cases hp
    exact command_deaf rfl hs
  | _ => cases hp

/-! ### Device reset in progress -/

/-- A select line that falls in device reset begins no frame (R175). -/
theorem frameStart_of_active {s : State} (h : s.resetControl.active = true) (p : HostNo) :
    exec (.frameStart p) s = .next (s.modifyPort p fun x => { x with selLow := true }) := by
  by_cases hlow : (s.port p).selLow = true
  · have hsame : s.modifyPort p (fun x => { x with selLow := true }) = s := by
      refine state_ext (fun _ => rfl) (fun _ => rfl) rfl (fun _ => rfl) (fun q => ?_) rfl rfl rfl rfl rfl rfl
      rw [modifyPort_port]
      split
      · rename_i hq
        rw [hq, ← hlow]
      · rfl
    rw [hsame]
    exact if_pos hlow
  · exact (if_neg hlow).trans (if_pos h)

/-- Settles O7: a row of a port moves its line, a change of INHIBIT moves that line, and every other row is an event, which is not
taken. -/
theorem nothingTakenInReset : Obligations.NothingTakenInReset := by
  refine ⟨fun i s ha hd hc => ?_, fun i p s => exec_deaf⟩
  have deaf {p : HostNo} (hp : i.portOf = some p) (hi : i ≠ .frameStart p) := exec_deaf hp hi (listens_of_active ha p)
  have untaken (u : State) (hu : u.resetControl.active = true) (f : State → State) :
      Host.Outcome.next (φ := Fault) (ρ := Refusal) (event f u) = .next u := congrArg _ (event_of_reset hu f)
  cases i with
  | frameStart p => exact frameStart_of_active ha p
  | inhibitLineChange level => rfl
  | deviceReset cause => exact absurd rfl (hd cause)
  | resetComplete => exact absurd rfl hc
  | sweepVisit fb => exact untaken (s.setFb fb) ha _
  | termStep | expiry | waitStep | waitTimeout | breakEndReserved | breakEndUnreserved | assertion | releaseOfInhibit
  | breakCountdown | settleTimerTick => exact untaken s ha _
  | _ => exact deaf rfl nofun

end Sys2Proof.Machine
end

section
/-! PROOFS. The commands that report the part and its hosts, and the command that writes a host's authority: QUERY_STATUS, READ_HOST
and SET_HOST (R151 to R153, R155, R162, R177, R179). -/

namespace Sys2Proof.Machine

/-! ### The fields of the host commands -/

theorem hostField_of_toNat {b : Byte} {h : HostNo} (hb : b.toNat = h.val) : hostField b = some h := by
  simp [hostField, hb]

theorem hostField_eq_none {b : Byte} (h : 4 ≤ b.toNat) : hostField b = none := dif_neg (Nat.not_lt.2 h)

theorem ceilingField_of_toNat {b : Byte} {c : Priority} (hb : b.toNat = c.val) : ceilingField b = some c := by
  simp [ceilingField, hb]

theorem ceilingField_eq_none {b : Byte} (h : 8 ≤ b.toNat) : ceilingField b = none := dif_neg (Nat.not_lt.2 h)

/-- The reserved bits of a rights byte are those above the two rights (R177). -/
theorem reservedRights_eq_zero_iff (b : Byte) : b.extractLsb' 2 6 = 0 ↔ b.toNat < 4 := by
  rw [← BitVec.toNat_inj, BitVec.extractLsb'_toNat, Nat.shiftRight_eq_div_pow]
  have hb := b.isLt
  change b.toNat / 4 % 64 = 0 ↔ _
  omega

theorem rightsField_of_lt {b : Byte} (h : b.toNat < 4) : rightsField b = some (b.getLsbD 0, b.getLsbD 1) :=
  if_pos ((reservedRights_eq_zero_iff b).2 h)

theorem rightsField_eq_none {b : Byte} (h : 4 ≤ b.toNat) : rightsField b = none :=
  if_neg fun h0 => Nat.not_lt.2 h ((reservedRights_eq_zero_iff b).1 h0)

/-- A rights byte is put together again from its two rights (R177). -/
theorem rightsByte_of_fields {b : Byte} (h : b.toNat < 4) : rightsByte (b.getLsbD 0) (b.getLsbD 1) = b := by
  rw [rightsByte, ← (reservedRights_eq_zero_iff b).2 h]
  refine BitVec.eq_of_getLsbD_eq fun i hi => ?_
  interval_cases i <;> simp only [BitVec.getLsbD_append] <;> simp

theorem rightsByte_eq_sum : ∀ config clear : Bool,
    rightsByte config clear = byteOf ((if config then 1 else 0) + (if clear then 2 else 0)) := by decide

/-- The ranges of R151, check 2. -/
theorem hostFields_eq_none {host quota ceiling rights : Byte}
    (h : 4 ≤ host.toNat ∨ 24 < quota.toNat ∨ 8 ≤ ceiling.toNat ∨ 4 ≤ rights.toNat) :
    hostFields host quota ceiling rights = none := by
  unfold hostFields
  rcases h with h | h | h | h
  · rw [hostField_eq_none h]
  · split
    · exact if_neg (Nat.not_le.2 h)
    · rfl
  · rw [ceilingField_eq_none h]
    cases hostField host <;> rfl
  · rw [rightsField_eq_none h]
    cases hostField host <;> cases ceilingField ceiling <;> rfl

theorem hostFields_eq_some {host quota ceiling rights : Byte} {h : HostNo} {c : Priority} (hh : host.toNat = h.val)
    (hq : quota.toNat ≤ 24) (hc : ceiling.toNat = c.val) (hr : rights.toNat < 4) :
    hostFields host quota ceiling rights = some (h, quota.toNat, c, rights.getLsbD 0, rights.getLsbD 1) := by
  unfold hostFields
  rw [hostField_of_toNat hh, ceilingField_of_toNat hc, rightsField_of_lt hr]
  exact if_pos hq

/-! ### QUERY_STATUS and READ_HOST -/

/-- The FREE slots are those without a live lease (R162). -/
theorem freeCount_eq (s : State) : s.freeCount = 24 - (List.finRange 24).countP fun v => (s.lease? v).isSome := by
  have hsum := List.length_eq_countP_add_countP (fun v => (s.lease? v).isSome) (l := List.finRange 24)
  have hfree : (List.finRange 24).countP (fun v => decide ¬(s.lease? v).isSome = true) = s.freeCount :=
    List.countP_congr fun v _ => by cases s.lease? v <;> simp
  rw [hfree, List.length_finRange] at hsum
  omega

theorem statusFields_eq (s : State) (p : HostNo) : s.statusFields p =
    [0xB4, 0x01, if s.inhibit.inEffect then 1 else 0,
        byteOf (24 - (List.finRange 24).countP fun v => (s.lease? v).isSome), byteOf s.waitQueue.length] ++
      bytesOfWord (setOf fun c => (s.channel c).state.isDriven) ++
      bytesOfWord (setOf fun c => (s.channel c).fault.state == .faulted) ++
      bytesOfWord (setOf fun c => (s.channel c).state == .lockedOut) ++ [byteOf (s.host p).notices.length] := by
  have hflag := moreFlag_eq (s.inhibit.inEffect = true)
  rw [Bool.decide_eq_true] at hflag
  rw [State.statusFields, hflag, freeCount_eq]
  rfl

/-- Settles O26: each byte of the two layouts against the part and the record of the host. -/
theorem statusQueriesReport : Obligations.StatusQueriesReport := by
  refine ⟨fun p n seq s hl hf => ?_, fun p n seq host s hl hf => ⟨fun hh => ?_, fun h hh => ?_⟩⟩
  · rw [← statusFields_eq]
    exact congrArg Host.Outcome.next (onFrame_of_reply hl hf rfl)
  · refine congrArg Host.Outcome.next (onFrame_of_reply hl hf ?_)
    rw [State.readHost, hostField_eq_none hh, State.refuse]
  · refine congrArg Host.Outcome.next (onFrame_of_reply hl hf ?_)
    rw [State.readHost, hostField_of_toNat hh]
    refine congrArg ((s.framed p n).answer p seq .ok) ?_
    rw [State.hostStanding, byteOf_of_toNat hh, rightsByte_eq_sum]
    rfl

/-! ### SET_HOST -/

theorem underCeiling_eq_false {s : State} {h : HostNo} {c : Priority} :
    s.underCeiling h c = false ↔ ∃ v, ∃ l ∈ s.lease? v, l.holder = h ∧ c < l.priority := by
  rw [State.underCeiling, List.all_eq_false]
  refine exists_congr fun v => ?_
  rw [mem_slotsOf]
  constructor
  · rintro ⟨⟨l, hl, hh⟩, hp⟩
    rw [priorityOf_eq hl, decide_eq_true_iff, not_le] at hp
    exact ⟨l, hl, hh, hp⟩
  · rintro ⟨l, hl, hh, hp⟩
    rw [priorityOf_eq hl, decide_eq_true_iff, not_le]
    exact ⟨⟨l, hl, hh⟩, hp⟩

theorem otherAuthority_eq_false {s : State} {h : HostNo} :
    s.otherAuthority h = false ↔ ∀ g, g ≠ h → (s.host g).config = false := by
  rw [State.otherAuthority, List.any_eq_false]
  refine forall_congr' fun g => ?_
  simp

/-- SET_HOST by a host with the CONFIG right, with fields in their ranges (R151, checks 3 to 5, R153). -/
theorem setHost_of_fields {s : State} {p : HostNo} {seq host quota ceiling rights : Byte} {h : HostNo} {q : Nat} {c : Priority}
    {config clear : Bool} (hr : (s.host p).config = true)
    (hf : hostFields host quota ceiling rights = some (h, q, c, config, clear)) :
    s.setHost p seq host quota ceiling rights =
      if q < s.liveCount h ∨ s.underCeiling h c = false then s.refuse p seq .busy
      else if config = false ∧ s.otherAuthority h = false then s.refuse p seq .lastAuthority
      else (s.modifyHost h fun r => { r with quota := q, ceiling := c, config := config, clear := clear }).answer p seq .ok
        [byteOf h.val, byteOf q, byteOf c.val, rightsByte config clear] := by
  unfold State.setHost
  rw [if_neg (by simp [hr]), hf, ite_or]

/-- A command in its frame that writes the record of a host, not only of the one that sends it, and answers: no output level moves
(R5). -/
theorem onFrame_of_modifyHost {s : State} {p h : HostNo} {n payload : Nat} (hl : s.listens p = true)
    (hf : clocksFit payload n = true) {body : State → State} {f : HostRecord → HostRecord} {seq : Byte} {r : Result}
    {fields : List Byte} (hb : body (s.framed p n) = ((s.framed p n).modifyHost h f).answer p seq r fields) :
    onFrame p n payload body s = (s.modifyHost h f).replied p seq r fields := by
  have hsync : syncOutputs s (s.modifyHost h f) = s.modifyHost h f := syncOutputs_of_output fun _ => rfl
  rw [onFrame_of_answer hl hf (t := s.modifyHost h f) hb, hsync]

/-- Settles O28: by the checks of R151, and then the write, which moves no output level. -/
theorem setHostWritesAuthority : Obligations.SetHostWritesAuthority := by
  intro p n seq host quota ceiling rights s hl hf
  have refused {r : Result}
      (hbody : (s.framed p n).setHost p seq host quota ceiling rights = (s.framed p n).refuse p seq r) :
      exec (.setHost p n seq host quota ceiling rights) s = .next (s.replied p seq r []) :=
    congrArg Host.Outcome.next (onFrame_of_reply hl hf hbody)
  refine ⟨fun hr => refused (if_pos hr), fun hr => ⟨fun hbad => refused ?_, fun h c hh hq hc hrights => ?_⟩⟩
  · unfold State.setHost
    rw [if_neg (by simp [State.framed, hr]), hostFields_eq_none hbad]
  · have hset := setHost_of_fields (s := s.framed p n) (seq := seq) hr (hostFields_eq_some hh hq hc hrights)
    by_cases hbusy : quota.toNat < s.liveCount h ∨ s.underCeiling h c = false
    · rw [if_pos (hbusy.imp_right underCeiling_eq_false.1)]
      exact refused (hset.trans (if_pos hbusy))
    rw [if_neg (mt (Or.imp_right underCeiling_eq_false.2) hbusy)]
    by_cases hlast : rights.getLsbD 0 = false ∧ s.otherAuthority h = false
    · rw [if_pos (hlast.imp_right otherAuthority_eq_false.1)]
      exact refused (hset.trans ((if_neg hbusy).trans (if_pos hlast)))
    rw [if_neg (mt (And.imp_right otherAuthority_eq_false.2) hlast)]
    -- the reply gives back the four bytes of the command
    rw [byteOf_of_toNat hh, byteOf_toNat, byteOf_of_toNat hc, rightsByte_of_fields hrights] at hset
    exact congrArg Host.Outcome.next
      (onFrame_of_modifyHost hl hf (hset.trans ((if_neg hbusy).trans (if_neg hlast))))

end Sys2Proof.Machine
end

section
/-! PROOFS. Frames on the wire: the bytes of a run of bits, the check byte, the checks of validation in their order, and every
command read back from its frame (R163 to R168, R176, R177). -/

namespace Sys2Proof.Machine

/-! ### Bits, bytes and words -/

@[simp] theorem length_bitsOfByte (b : Byte) : (bitsOfByte b).length = 8 := rfl

theorem length_flatMap_bitsOfByte (bytes : List Byte) : (bytes.flatMap bitsOfByte).length = 8 * bytes.length := by
  simp [List.length_flatMap, Nat.mul_comm]

/-- A byte is put together again from its bits (R163). -/
theorem byteOfBits_of_byte (b : Byte) :
    byteOfBits (b.getLsbD 7) (b.getLsbD 6) (b.getLsbD 5) (b.getLsbD 4) (b.getLsbD 3) (b.getLsbD 2) (b.getLsbD 1)
      (b.getLsbD 0) = b := by
  refine BitVec.eq_of_getLsbD_eq fun i hi => ?_
  rw [byteOfBits, BitVec.getLsbD_ofBoolListBE]
  interval_cases i <;> rfl

theorem assemble_flatMap_bitsOfByte (bytes : List Byte) : assemble (bytes.flatMap bitsOfByte) = bytes := by
  induction bytes with
  | nil => rfl
  | cons b rest ih => exact congrArg₂ List.cons (byteOfBits_of_byte b) ih

/-- A word is put together again from its two bytes (R176). -/
theorem wordOf_of_word (w : Word) : wordOf (w.extractLsb' 8 8) (w.extractLsb' 0 8) = w := by
  refine BitVec.eq_of_getLsbD_eq fun i hi => ?_
  rw [wordOf, BitVec.getLsbD_append]
  by_cases h8 : i < 8
  · simp [h8]
  · simp [h8, show i - 8 < 8 by omega, show 8 + (i - 8) = i by omega]

/-! ### The check byte -/

theorem crcShift_eq (r : Byte) : crcShift r = if r.getLsbD 7 then (r <<< 1) ^^^ 0x07 else r <<< 1 := by
  rw [crcShift, BitVec.msb_eq_getLsbD_last]

theorem crc8_concat (bytes : List Byte) (b : Byte) : crc8 (bytes ++ [b]) = crcShift^[8] (crc8 bytes ^^^ b) := by
  rw [crc8, List.foldl_concat]
  rfl

/-! ### The checks of validation -/

/-- A frame with a part of a byte fails for it, however few bytes it has (R167). -/
theorem validate_of_partialByte {bits : List Bool} (h : bits.length % 8 ≠ 0) : validate bits = .failed .partialByte := by
  unfold validate
  split
  · exact if_neg fun h0 => h (by rw [h0])
  · exact if_pos h

/-- The checks of R167 on a frame of whole bytes, in terms of the bytes that follow the opcode. -/
theorem validate_bytes (op : Byte) (rest : List Byte) :
    validate ((op :: rest).flatMap bitsOfByte) =
      match payloadLength op with
      | none => .failed .unknownOpcode
      | some n =>
        if rest.length < n + 1 then .failed .short
        else if 63 < rest.length then .failed .long
        else if rest[n]? = some (crc8 (op :: rest.take n)) then .valid op (rest.take n)
        else .failed .check := by
  have hkept : keptBytes ((op :: rest).flatMap bitsOfByte) = op :: rest.take 63 := by
    rw [keptBytes, assemble_flatMap_bitsOfByte]
    rfl
  have hlen := length_flatMap_bitsOfByte (op :: rest)
  have hmod : ¬ 8 * (op :: rest).length % 8 ≠ 0 := by omega
  have hdiv : 8 * (op :: rest).length / 8 = rest.length + 1 := Nat.mul_div_cancel_left _ (by decide)
  unfold validate
  rw [hkept, hlen]
  dsimp only
  rw [if_neg hmod]
  cases payloadLength op with
  | none => rfl
  | some n =>
    dsimp only [lengthError]
    rw [if_neg hmod, hdiv]
    by_cases hshort : rest.length < n + 1
    · rw [if_pos (show rest.length + 1 < n + 2 by omega), if_pos hshort]
    rw [if_neg (show ¬ rest.length + 1 < n + 2 by omega), if_neg hshort]
    by_cases hlong : 63 < rest.length
    · rw [if_pos (show rest.length + 1 > Config.frameBytes from Nat.succ_lt_succ hlong), if_pos hlong]
    -- the receiver has kept the whole frame
    rw [if_neg (show ¬ rest.length + 1 > Config.frameBytes from mt Nat.lt_of_succ_lt_succ hlong), if_neg hlong,
      List.take_of_length_le (Nat.le_of_not_lt hlong)]

/-- Settles O4: the check byte by its fold, and the checks on a part of a byte and on whole bytes. -/
theorem frameValidation : Obligations.FrameValidation := by
  refine ⟨⟨rfl, fun bytes b => ?_⟩, fun _ => validate_of_partialByte, validate_bytes⟩
  rw [crc8_concat, funext crcShift_eq]

/-! ### Every command from its frame -/

/-- The payload of a command has the length that its opcode fixes (R177). -/
theorem payloadLength_of_command {i : Instr} {op : Byte} {payload : List Byte}
    (h : i.opcodeAndPayload = some (op, payload)) : payloadLength op = some payload.length := by
  cases i <;> cases h <;> rfl

/-- A frame that is laid out as R165 says and is no longer than 64 bytes passes every check. -/
theorem validate_frameBits {op : Byte} {payload filler : List Byte} (hop : payloadLength op = some payload.length)
    (hlen : payload.length + 2 + filler.length ≤ 64) : validate (frameBits op payload filler) = .valid op payload := by
  have hrest : (payload ++ crc8 (op :: payload) :: filler).length = payload.length + 1 + filler.length := by
    rw [List.length_append, List.length_cons]
    omega
  have htake : (payload ++ crc8 (op :: payload) :: filler).take payload.length = payload := List.take_left
  have hcheck : (payload ++ crc8 (op :: payload) :: filler)[payload.length]? = some (crc8 (op :: payload)) := by
    simp
  refine (validate_bytes op (payload ++ crc8 (op :: payload) :: filler)).trans ?_
  rw [hop, hrest]
  dsimp only
  rw [if_neg (by omega), if_neg (by omega), htake, if_pos hcheck]

theorem length_frameBits (op : Byte) (payload filler : List Byte) :
    (frameBits op payload filler).length = 8 * (payload.length + 2 + filler.length) := by
  rw [frameBits, length_flatMap_bitsOfByte]
  simp only [List.length_append, List.length_cons]
  omega

/-- The opcode and payload of a command are read as that command again (R177). -/
theorem commandOf_opcodeAndPayload {i : Instr} {p : HostNo} {n : Nat} {fb : Word} {op : Byte} {payload : List Byte}
    (hi : i.frame? = some (p, n)) (h : i.opcodeAndPayload = some (op, payload)) (hfb : i.fbLines fb = fb) :
    commandOf p n fb op payload = some i := by
  cases i with
  | request | renew | drive | shed | setNotices =>
    cases hi
    cases h
    -- the fields of two bytes
    simp [commandOf, bytesOfWord, wordOf_of_word]
  | queryChannel q m seq channel levels =>
    obtain rfl : levels = fb := hfb
    cases hi
    cases h
    rfl
  | noop | alter | release | releaseAll | queryLease | listLeases | queryStatus | readNotice | clearFault | setChannel | setHost
  | readHost | revoke | tableReset =>
    cases hi
    cases h
    rfl
  | _ => cases hi

theorem rowOfFrame_of_valid {bits : List Bool} {op : Byte} {payload : List Byte} (h : validate bits = .valid op payload)
    (p : HostNo) (fb : Word) : rowOfFrame p fb bits = commandOf p bits.length fb op payload := by
  rw [rowOfFrame, h]

/-- Settles O3: the frame of a command is valid, and its opcode and payload are read as that command. -/
theorem frameRoundTrip : Obligations.FrameRoundTrip := by
  intro i p n op payload filler fb hi h hfb hlen hn
  have hv := validate_frameBits (payloadLength_of_command h) hlen
  rw [rowOfFrame_of_valid hv, length_frameBits, ← hn]
  exact commandOf_opcodeAndPayload hi h hfb

end Sys2Proof.Machine
end

section
/-! PROOFS. The step, and the end of a frame that does no work besides its port: a frame that fails, one without a clock, one that
does not fit its command, and NOOP (R164, R167, R168, R171, R172, R174). -/

namespace Sys2Proof.Machine

/-- Settles O1: the step's own case of a queue that is not empty. -/
theorem stepTakesFront : Obligations.StepTakesFront := fun _ _ _ => rfl

/-! ### The port at the end of a frame -/

theorem modifyPort_modifyPort (s : State) (p : HostNo) (f g : PortRecord → PortRecord) :
    (s.modifyPort p f).modifyPort p g = s.modifyPort p (g ∘ f) := by
  refine state_ext (fun _ => rfl) (fun _ => rfl) rfl (fun _ => rfl) (fun q => ?_) rfl rfl rfl rfl rfl rfl
  by_cases hq : q = p
  · rw [hq, modifyPort_port_self, modifyPort_port_self, modifyPort_port_self]
    rfl
  · rw [modifyPort_port_ne _ hq, modifyPort_port_ne _ hq, modifyPort_port_ne _ hq]

theorem fail_endFrame (n : Nat) (kind : FrameErrorKind) :
    PortRecord.fail kind ∘ PortRecord.endFrame n = PortRecord.ended n true kind := rfl

theorem accept_endFrame (n : Nat) :
    PortRecord.accept ∘ PortRecord.endFrame n = fun x => x.ended n false x.errorKind := rfl

/-- A frame without a clock reaches the end of no reply (R171). -/
theorem endFrame_zero : PortRecord.endFrame 0 = fun x => { x with selLow := false, frame := none } :=
  funext fun x => by simp [PortRecord.endFrame]

section
variable {s : State} {p : HostNo} (hl : s.listens p = true)
include hl

/-- A frame without a clock is ignored (R164). -/
theorem frameEnd_ignored : frameEnd p 0 id s = s.modifyPort p fun x => { x with selLow := false, frame := none } := by
  rw [frameEnd_listens hl, endFrame_zero]
  exact syncOutputs_of_sameParts (sameParts_modifyPort s p _)

/-- A frame that fails sets FRAME_ERROR with its kind and keeps the reply (R167, R171). -/
theorem frameEnd_failed (n : Nat) (kind : FrameErrorKind) :
    frameEnd p n (fun u => u.modifyPort p (PortRecord.fail kind)) s = s.modifyPort p (PortRecord.ended n true kind) := by
  rw [frameEnd_listens hl, modifyPort_modifyPort, fail_endFrame]
  exact syncOutputs_of_sameParts (sameParts_modifyPort s p _)

theorem onFrame_ignored (payload : Nat) (body : State → State) :
    onFrame p 0 payload body s = s.modifyPort p fun x => { x with selLow := false, frame := none } :=
  frameEnd_ignored hl

theorem onFrame_misfit {n payload : Nat} {kind : FrameErrorKind} (h0 : n ≠ 0) (he : lengthError payload n = some kind)
    (body : State → State) : onFrame p n payload body s = s.modifyPort p (PortRecord.ended n true kind) := by
  simp only [onFrame, if_neg h0, he]
  exact frameEnd_failed hl n kind

end

/-- Settles O8: NOOP is a valid frame whose command has no work. -/
theorem noopKeepsReply : Obligations.NoopKeepsReply := by
  intro p n s hl hf
  have hframed : s.framed p n = s.modifyPort p fun x => x.ended n false x.errorKind := modifyPort_modifyPort s p _ _
  refine congrArg Host.Outcome.next ((onFrame_framed hl hf id).trans ?_)
  rw [id, hframed]
  exact syncOutputs_of_sameParts (sameParts_modifyPort s p _)

/-! ### FRAME_ERROR -/

theorem exec_frameError_of_valid {bits : List Bool} {op : Byte} {payload : List Byte} (h : validate bits = .valid op payload)
    (p : HostNo) (s : State) :
    exec (.frameError p bits) s = executeRow (commandOf p bits.length s.fb op payload) s := by
  change execFrameError p bits s = _
  rw [execFrameError, h]

theorem exec_frameError_of_failed {bits : List Bool} {kind : FrameErrorKind} (h : validate bits = .failed kind) (p : HostNo)
    (s : State) : exec (.frameError p bits) s =
      .next (frameEnd p bits.length (fun u => u.modifyPort p (PortRecord.fail kind)) s) := by
  change execFrameError p bits s = _
  rw [execFrameError, h]

theorem exec_frameError_of_ignored {bits : List Bool} (h : validate bits = .ignored) (p : HostNo) (s : State) :
    exec (.frameError p bits) s = .next (frameEnd p 0 id s) := by
  change execFrameError p bits s = _
  rw [execFrameError, h]

/-- Settles O5: the three verdicts of validation; a valid frame always carries a command. -/
theorem frameErrorRow : Obligations.FrameErrorRow := by
  intro p bits s hl
  refine ⟨fun kind hv => ?_, fun hv => ?_, fun op payload hv => ?_⟩
  · rw [exec_frameError_of_failed hv, frameEnd_failed hl]
  · rw [exec_frameError_of_ignored hv, frameEnd_ignored hl]
  · obtain ⟨i, hi, -⟩ := commandOf_of_payloadLength (payloadLength_of_valid hv) p bits.length s.fb
    have hframe := commandOf_frame hi
    refine ⟨i, (rowOfFrame_of_valid hv p s.fb).trans hi, hframe, ?_⟩
    rw [exec_frameError_of_valid hv, hi]
    exact (exec_eq_executeRow (by rw [hframe]; nofun) s).symm

/-! ### A frame that does not fit its command -/

/-- A command has an opcode and a payload, whose length decides which frames fit it and how its frame ends (R165, R167). -/
theorem exec_of_payload {i : Instr} {p : HostNo} {n : Nat} (h : i.frame? = some (p, n)) :
    ∃ op payload, i.opcodeAndPayload = some (op, payload) ∧ i.wellFormed = clocksFit payload.length n ∧
      ∀ s, exec i s = .next (onFrame p n payload.length (fun u => u.perform i) (s.setFb (i.fbLines s.fb))) := by
  cases i with
  | noop | request | renew | drive | shed | alter | release | releaseAll | queryLease | listLeases | queryChannel
  | queryStatus | readNotice | clearFault | setNotices | setChannel | setHost | readHost | revoke | tableReset =>
    cases h
    exact ⟨_, _, rfl, rfl, fun _ => rfl⟩
  | _ => cases h

/-- No opcode has a payload of more than 12 bytes (R177). -/
theorem payloadLength_le {op : Byte} {n : Nat} (h : payloadLength op = some n) : n ≤ 12 := by
  obtain ⟨front, back, hsplit, -⟩ := List.lookup_eq_some_iff.1 h
  have hmem : (op, n) ∈ opcodeTable := hsplit ▸ List.mem_append_right front List.mem_cons_self
  exact (show ∀ e ∈ opcodeTable, e.2 ≤ 12 by decide) _ hmem

/-- Why the frame of a command does not fit it: no frame is both too short for its command and longer than 64 bytes. -/
theorem lengthError_of_misfit {payload n : Nat} (hle : payload ≤ 12) (h : clocksFit payload n = false) :
    lengthError payload n =
      some (if n % 8 ≠ 0 then .partialByte else if 512 < n then .long else .short) := by
  unfold clocksFit lengthError at h
  unfold lengthError
  by_cases hmod : n % 8 ≠ 0
  · rw [if_pos hmod, if_pos hmod]
  rw [if_neg hmod] at h
  rw [if_neg hmod, if_neg hmod]
  by_cases hshort : n / 8 < payload + 2
  · rw [if_pos hshort, if_neg (show ¬ 512 < n by omega)]
  rw [if_neg hshort] at h
  rw [if_neg hshort]
  by_cases hlong : n / 8 > Config.frameBytes
  · rw [if_pos hlong, if_pos (show 512 < n by unfold Config.frameBytes at hlong; omega)]
  · rw [if_neg hlong] at h
    cases h

/-- Settles O6: the command is what its frame makes of it, and the frame is ignored or fails. -/
theorem misfitIsFrameError : Obligations.MisfitIsFrameError := by
  intro i p n s hi hwf hl
  obtain ⟨op, payload, hop, hfit, hexec⟩ := exec_of_payload hi
  have hle : payload.length ≤ 12 := payloadLength_le (payloadLength_of_command hop)
  have hfb : (s.setFb (i.fbLines s.fb)).listens p = true := hl
  rw [hexec]
  refine congrArg Host.Outcome.next ?_
  by_cases h0 : n = 0
  · subst h0
    exact onFrame_ignored hfb _ _
  · have herror := lengthError_of_misfit hle (hfit.symm.trans hwf)
    rw [onFrame_misfit hfb h0 herror]
    simp only [if_neg h0]
    rfl

end Sys2Proof.Machine
end

section
/-! PROOFS. The start of a frame: the status byte and its fields, what the falling edge of a select line does to its port, and what
SDO carries from there (R163, R164, R169, R170, R175, R178, R180). -/

namespace Sys2Proof.Machine

/-! ### The status byte -/

/-- NOTIFY_ACTIVE says that the queue holds a record (R143). -/
theorem notifyActive_eq (r : HostRecord) : r.notifyActive = decide (r.notices ≠ []) := by
  cases h : r.notices <;> simp [HostRecord.notifyActive, h]

/-- NOTICE_PENDING says that the queue holds a record other than POWER_ON (R143). -/
theorem noticePending_eq (r : HostRecord) : r.noticePending = decide (∃ n ∈ r.notices, n ≠ .powerOn) := by
  rw [HostRecord.noticePending, List.any_eq]
  simp only [bne_iff_ne]

/-- The five flags of the status byte, each at its bit (R180). -/
theorem statusByte_flags (r : HostRecord) (inhibit : Bool) (x : PortRecord) :
    (statusByte r inhibit x).getLsbD 7 = r.notifyActive ∧ (statusByte r inhibit x).getLsbD 6 = r.noticePending ∧
      (statusByte r inhibit x).getLsbD 5 = inhibit ∧ (statusByte r inhibit x).getLsbD 4 = x.unread ∧
      (statusByte r inhibit x).getLsbD 3 = x.frameError := by
  unfold statusByte
  refine ⟨?_, ?_, ?_, ?_, ?_⟩ <;> simp only [BitVec.getLsbD_append] <;> simp

/-- The low three bits of the status byte are the last frame-error kind (R180). -/
theorem statusByte_kind (r : HostRecord) (inhibit : Bool) (x : PortRecord) :
    (statusByte r inhibit x).toNat % 8 = (errorKindCode x.errorKind).toNat := by
  have hlow : (statusByte r inhibit x).setWidth 3 = errorKindCode x.errorKind := by
    rw [statusByte, BitVec.setWidth_append]
    simp
  rw [← hlow, BitVec.toNat_setWidth]

/-- Codes of the frame-error kinds (R182). -/
theorem errorKindCode_toNat (kind : FrameErrorKind) :
    (errorKindCode kind).toNat = match kind with
      | .none => 0 | .partialByte => 1 | .unknownOpcode => 2 | .short => 3 | .long => 4 | .check => 5 := by
  cases kind <;> rfl

/-! ### The falling edge of a select line -/

/-- The port from the falling edge of its select line on, with what the frame presents (R164, R169). -/
def PortRecord.begun (x : Shifting) (port : PortRecord) : PortRecord :=
  { port with selLow := true, frame := some x }

section
variable {s : State} {p : HostNo}

/-- A line that is low already does not fall (R164). -/
theorem exec_frameStart_of_low (h : (s.port p).selLow = true) : exec (.frameStart p) s = .next s := if_pos h

/-- In device reset the line falls and no frame begins (R175). -/
theorem exec_frameStart_of_reset (h : (s.port p).selLow = false) (hr : s.resetControl.active = true) :
    exec (.frameStart p) s = .next (s.modifyPort p fun x => { x with selLow := true }) :=
  (if_neg (by rw [h]; nofun)).trans (if_pos hr)

/-- With the part running the falling edge fixes what the frame presents (R169). -/
theorem exec_frameStart_of_running (h : (s.port p).selLow = false) (hr : s.resetControl.active = false) :
    exec (.frameStart p) s = .next (s.modifyPort p (PortRecord.begun (s.presented p))) :=
  (if_neg (by rw [h]; nofun)).trans (if_neg (by rw [hr]; nofun))

/-- From the falling edge on SDO carries the bits of what the frame presents (R163). -/
theorem sdo_begun (hr : s.resetControl.active = false) (x : Shifting) (k : Nat) :
    (s.modifyPort p (PortRecord.begun x)).sdo p k = some (x.bit k) :=
  sdo_of_frame (s := s.modifyPort p (PortRecord.begun x)) hr (by rw [modifyPort_port_self]; rfl)
    (by rw [modifyPort_port_self]; rfl) k

end

/-- The bits of a frame, most significant first, from the bytes sent and then zero bytes (R163, R170). -/
theorem Shifting.bit_eq (x : Shifting) (k : Nat) :
    x.bit k = (((x.status :: x.record) ++ [crc8 (x.status :: x.record)])[k / 8]?.getD 0).getLsbD (7 - k % 8) := by
  rw [Shifting.bit, Shifting.byte, List.getD_eq_getElem?_getD]
  rfl

/-- Settles O9: by whether the line is low and whether device reset is in progress; the frame that begins presents the status
byte and the reply record of its port. -/
theorem frameStartPresents : Obligations.FrameStartPresents := by
  intro p s
  refine ⟨exec_frameStart_of_low,
    fun hhigh hreset => ⟨exec_frameStart_of_reset hhigh hreset, sdo_of_reset (s := s.modifyPort p _) hreset p⟩,
    fun hhigh hrun => ⟨(s.presented p).status, _, exec_frameStart_of_running hhigh hrun, rfl, sdo_of_high hhigh,
      fun k => ?_, ?_⟩⟩
  · rw [sdo_begun hrun, Shifting.bit_eq]
    rfl
  · obtain ⟨hactive, hpending, hinhibit, hunread, herror⟩ := statusByte_flags (s.host p) s.inhibit.inEffect (s.port p)
    exact ⟨hactive.trans (notifyActive_eq _), hpending.trans (noticePending_eq _), hinhibit, hunread, herror,
      (statusByte_kind _ _ _).trans (errorKindCode_toNat _)⟩

end Sys2Proof.Machine
end
